-- ==== Sys2Proof/Word.lean ====
section
/-!
DEFINITION. The word types of the register port and of the decode path
(spec/00_scope.md R6; spec/20_memory.md R40).
-/

namespace Sys2Proof

/-- A 32-bit register or command word (20_memory R40, 30_encoding R61). -/
abbrev Word := BitVec 32

/-- A byte of the frame path (10_state R19). -/
abbrev Byte := BitVec 8

/-- The word index a port access carries, 0..511 (20_memory R40, R48). -/
abbrev WordIndex := BitVec 9

/-- A pulse duration in microseconds, `u16` (10_state R17, DUR_W = 16). -/
abbrev Duration := BitVec 16

end Sys2Proof
end

