-- ==== Sys2Proof/Syntax.lean ====
section
/-!
DEFINITION. The ten commands (spec/30_encoding.md R61, R62, R63), one constructor per row of
spec/opcode_table.json. Every operand not named here comes from registers (R62).
-/

namespace Sys2Proof

/-- A command of the block. -/
inductive Instr where
  /-- CLASSIFY, with `duration` = IMM, all 65536 values legal (R62). -/
  | classify (duration : Duration)
  /-- BITDEC. -/
  | bitdec
  /-- FINDPRE. -/
  | findpre
  /-- MANDEC. -/
  | mandec
  /-- CSUM. -/
  | csum
  /-- DECODE. -/
  | decode
  /-- ONFRAME. -/
  | onframe
  /-- DECAY. -/
  | decay
  /-- VIEW. -/
  | view
  /-- APPLYCFG, with its whole immediate: `valid` is IMM[0], and IMM[15:1] must be 0 (R62). -/
  | applycfg (imm : BitVec 16)
deriving DecidableEq, Repr

end Sys2Proof
end

