-- ==== Sys2Proof/WellFormed.lean ====
section
/-!
DEFINITION. Which commands can be written as a command word (spec/30_encoding.md R62, R64). The types of
Syntax.lean hold every other operand in range: a CLASSIFY duration is any `u16`.
-/

namespace Sys2Proof

/-- IMM[15:1] of APPLYCFG must be 0 (R62); every other command has no check left to make. -/
def Instr.wellFormed : Instr → Bool
  | .applycfg imm => imm.extractLsb' 1 15 == 0#15
  | .classify _ => true
  | .bitdec => true
  | .findpre => true
  | .mandec => true
  | .csum => true
  | .decode => true
  | .onframe => true
  | .decay => true
  | .view => true

/-- A command that has a command word. -/
abbrev WellFormed (i : Instr) : Prop := i.wellFormed = true

end Sys2Proof
end

