-- ==== Sys2Proof/Decode.lean ====
section
/-!
DEFINITION. The command decoder and encoder (spec/30_encoding.md R61 to R64). There is one length, 32 bits, and
one format; there is no mode that changes decoding (R65).
-/

namespace Sys2Proof

/-- Why a command word is illegal (R64). All illegal words act alike; the names only say which clause of R64
applies (DESIGN CHOICE, log 12, safe). -/
inductive Illegal where
  /-- ZERO (bits 31:24) is not 0. -/
  | zeroField
  /-- OPC is 0x00, 0x07 or 0x0C to 0xFF. -/
  | opcode
  /-- a reserved immediate bit is not 0. -/
  | immediate
deriving DecidableEq, Repr

/-- A field value `v` placed in a word with its lowest bit at bit `lo`, zero elsewhere (00_scope R6). -/
def field {n : Nat} (v : BitVec n) (lo : Nat) : Word := v.zeroExtend 32 <<< lo

/-- OPC, bits 7:0 (R61). -/
def opcodeField (w : Word) : Byte := w.extractLsb' 0 8

/-- IMM, bits 23:8 (R61). -/
def immField (w : Word) : BitVec 16 := w.extractLsb' 8 16

/-- ZERO, bits 31:24 (R61). -/
def zeroField (w : Word) : Byte := w.extractLsb' 24 8

/-- The eight commands whose IMM must be 0, by opcode (R63). -/
def plainCommand (opc : Byte) : Option Instr :=
  if opc = 0x02#8 then some .bitdec
  else if opc = 0x03#8 then some .findpre
  else if opc = 0x04#8 then some .mandec
  else if opc = 0x05#8 then some .csum
  else if opc = 0x06#8 then some .decode
  else if opc = 0x08#8 then some .onframe
  else if opc = 0x09#8 then some .decay
  else if opc = 0x0A#8 then some .view
  else none

/-- The decoder (R61 to R64): total, every word is one of the ten commands or illegal. -/
def decode (w : Word) : Except Illegal Instr :=
  if zeroField w ≠ 0#8 then .error .zeroField
  else if opcodeField w = 0x01#8 then .ok (.classify (immField w))
  else if opcodeField w = 0x0B#8 then
    if (immField w).extractLsb' 1 15 = 0#15 then .ok (.applycfg (immField w)) else .error .immediate
  else
    match plainCommand (opcodeField w) with
    | none => .error .opcode
    | some i => if immField w = 0#16 then .ok i else .error .immediate

/-- The opcode of a command (R63). -/
def opcode : Instr → Byte
  | .classify _ => 0x01#8
  | .bitdec => 0x02#8
  | .findpre => 0x03#8
  | .mandec => 0x04#8
  | .csum => 0x05#8
  | .decode => 0x06#8
  | .onframe => 0x08#8
  | .decay => 0x09#8
  | .view => 0x0A#8
  | .applycfg _ => 0x0B#8

/-- The immediate of a command (R62). -/
def immediate : Instr → BitVec 16
  | .classify duration => duration
  | .applycfg imm => imm
  | .bitdec => 0#16
  | .findpre => 0#16
  | .mandec => 0#16
  | .csum => 0#16
  | .decode => 0#16
  | .onframe => 0#16
  | .decay => 0#16
  | .view => 0#16

/-- The command word of a command: OPC at 7:0, IMM at 23:8, ZERO at 31:24 (R61). -/
def encode (i : Instr) : Word := field (opcode i) 0 ||| field (immediate i) 8

/-- One row of the opcode map of R63: `w` selects the row when `w and mask = pattern`. -/
structure OpcodeRow where
  mnemonic : String
  pattern : Word
  mask : Word
deriving DecidableEq, Repr

/-- The opcode map as R63 prints it (match and mask); `decode` does not use it, a statement holds the two
together. -/
def opcodeRows : List OpcodeRow :=
  [⟨"CLASSIFY", 0x00000001#32, 0xFF0000FF#32⟩,
   ⟨"BITDEC",   0x00000002#32, 0xFFFFFFFF#32⟩,
   ⟨"FINDPRE",  0x00000003#32, 0xFFFFFFFF#32⟩,
   ⟨"MANDEC",   0x00000004#32, 0xFFFFFFFF#32⟩,
   ⟨"CSUM",     0x00000005#32, 0xFFFFFFFF#32⟩,
   ⟨"DECODE",   0x00000006#32, 0xFFFFFFFF#32⟩,
   ⟨"ONFRAME",  0x00000008#32, 0xFFFFFFFF#32⟩,
   ⟨"DECAY",    0x00000009#32, 0xFFFFFFFF#32⟩,
   ⟨"VIEW",     0x0000000A#32, 0xFFFFFFFF#32⟩,
   ⟨"APPLYCFG", 0x0000000B#32, 0xFFFFFEFF#32⟩]

/-- The mnemonic of a command (R63). -/
def mnemonic : Instr → String
  | .classify _ => "CLASSIFY"
  | .bitdec => "BITDEC"
  | .findpre => "FINDPRE"
  | .mandec => "MANDEC"
  | .csum => "CSUM"
  | .decode => "DECODE"
  | .onframe => "ONFRAME"
  | .decay => "DECAY"
  | .view => "VIEW"
  | .applycfg _ => "APPLYCFG"

/-- The word the host stores for a table row: its low `nbits` bits, every higher bit 0. -/
def tableWord (nbits w : Nat) : Word := BitVec.ofNat 32 (w % 2 ^ nbits)

/-- What the decoder reads from a row of spec/opcode_table.json; a command is one 32-bit word. -/
def decodeTableWord (nbits w : Nat) : Option Instr :=
  match decode (tableWord nbits w) with
  | .ok i => some i
  | .error _ => none

end Sys2Proof
end

