-- ==== Sys2Proof/Config.lean ====
section
/-!
DEFINITION. What the hardware fixes (spec/00_scope.md R4, R5) and the one free value of the model.
The constants of R4 are taken as normative although the spec calls them unaudited (UNVERIFIED, log 9, unsafe);
the parameters of R5 stand at the default the spec takes (DESIGN CHOICE, log 6, unsafe).
DUR_W, COUNT_W, CNT_W, TS_W and VAL_W are widths, fixed in the types of State.
SCORE_TIMEOUT_S, the host's decay cadence, is used by no rule of the block (60_exceptions R144).
-/

namespace Sys2Proof.Config

/-- T_MIN: the shortest valid pulse, microseconds (R4). -/
@[simp] def tMin : Nat := 20

/-- T_LONG: the shortest Long pulse, microseconds (R4). -/
@[simp] def tLong : Nat := 80

/-- BIT_CAP: the capacity of BITBUF (R4). -/
@[simp] def bitCap : Nat := 200

/-- BYTE_CAP: the capacity of BYTEBUF (R4). -/
@[simp] def byteCap : Nat := 10

/-- FRAME_LEN: bytes in a frame (R4). -/
@[simp] def frameLen : Nat := 9

/-- PRE_LEN: the preamble length in raw bits (R4). -/
@[simp] def preLen : Nat := 16

/-- PREAMBLE: `10101010 10101001`, first bit leftmost (R4, 41_preamble_sync R90). -/
def preamble : List Bool :=
  [true, false, true, false, true, false, true, false,
   true, false, true, false, true, false, false, true]

/-- CLOCK_MASK: the Manchester clock mask (R4). -/
@[simp] def clockMask : BitVec 16 := 0xAAAA#16

/-- SCORE_MAX: the largest score (R4). -/
@[simp] def scoreMax : Nat := 250

/-- SCORE_ADD: the score one sighting adds, and the score of a new entry (R4). -/
@[simp] def scoreAdd : Nat := 10

/-- SCORE_DEC: the score one decay tick removes (R5, default; DESIGN CHOICE, log 6). -/
@[simp] def scoreDec : Nat := 10

/-- N_CONFIGURED: the pinned slots are 0..3 (R4). -/
@[simp] def nConfigured : Nat := 4

/-- PULSE_CAP: entries of the pulse memory (R5). -/
@[simp] def pulseCap : Nat := 255

/-- The FREE VALUE of the model: what entry `k` of PULSE holds after reset event number `resets` until the
host writes it. The spec gives no value: "an arbitrary value chosen once" (10_state R17;
93_implementation_defined U1). It has no body, so no proof can depend on what it is (log 3, safe). -/
opaque pulseAtReset (resets k : Nat) : Duration

end Sys2Proof.Config
end

