-- ==== Sys2Proof/Machine/State.lean ====
section
/-!
DEFINITION. The state of the block (spec/10_state.md R10 and the rules it names), the host's side of the port, the
reasons a step can stop, and the state after reset (10_state R30).
-/

namespace Sys2Proof.Machine

/-- The result codes, the whole list (60_exceptions R135; 93_implementation_defined U4: codes 6 to 14 are never
produced). -/
inductive ResultCode where
  | ok
  | noPreamble
  | checksumFail
  | bitOverflow
  | byteOverflow
  | zeroId
  | illegalCmd
deriving DecidableEq, Repr

/-- The class of a pulse (40_pulse_bit_recovery R80; CLASS = 3 never occurs, 10_state R20). -/
inductive PulseClass where
  | invalid
  | short
  | long
deriving DecidableEq, Repr

/-- TBLRES.KIND: what the last ONFRAME did (10_state R29). -/
inductive TableKind where
  /-- 0: nothing written. -/
  | nothing
  /-- 1: matched a configured slot. -/
  | configured
  /-- 2: matched an extra slot. -/
  | extra
  /-- 3: a new id placed in an extra slot. -/
  | placed
deriving DecidableEq, Repr

/-- TBLRES (10_state R29). -/
structure TableResult where
  slot : BitVec 4
  kind : TableKind
  evict : Bool
deriving DecidableEq, Repr

/-- One SensorRecord (10_state R25). STATE is derived, not stored (R26). -/
structure Slot where
  id : Word
  pressure : Word
  temp : Word
  score : Byte
  lastSeen : Word
deriving DecidableEq, Repr

/-- `EMPTY`, the record with all five fields 0 (45_sensor_table R115). -/
def Slot.empty : Slot := ⟨0, 0, 0, 0, 0⟩

/-- The pulse memory: the entries of PULSE written since reset, as (index, duration) pairs, indices strictly
rising (10_state R17; the form is DESIGN CHOICE, log 4, safe). An entry not listed reads as the free value
`Config.pulseAtReset`. -/
abbrev Memory := List (Nat × Duration)

/-- What reaches the block through its port: a read or a write of one register by word index (20_memory R41,
R42), or a reset between two accesses (70_reset_and_hazards R150). -/
inductive PortEvent where
  | read (index : WordIndex)
  | write (index : WordIndex) (value : Word)
  | reset
deriving DecidableEq, Repr

/-- The whole state: 10_state R10, and three fields of the model's own (`port`, `readData`, `resets`). -/
structure State where
  /-- STATUS.RESULT (R14) -/
  result : ResultCode
  /-- STATUS.LASTOPC (R14) -/
  lastOpc : Byte
  /-- STATUS.OVF_BIT, sticky (R13) -/
  ovfBit : Bool
  /-- STATUS.OVF_BYTE, sticky (R13) -/
  ovfByte : Bool
  /-- STATUS.CMDERR, sticky (R13) -/
  cmdErr : Bool
  /-- COUNT (R16) -/
  count : BitVec 8
  /-- STARTLEVEL (R16) -/
  startLevel : Bool
  /-- PULSE (R17) -/
  pulse : Memory
  /-- BITBUF; BITLEN is its length (R18) -/
  bitBuf : List Bool
  /-- BYTEBUF; BYTELEN is its length (R19) -/
  byteBuf : List Byte
  /-- START (R20) -/
  start : BitVec 8
  /-- FOUND (R20) -/
  found : Bool
  /-- CLASS (R20) -/
  cls : PulseClass
  /-- CSUMOK (R20) -/
  csumOk : Bool
  /-- FRAME[0..8] (R21) -/
  frame : Vector Byte 9
  /-- FRAMEVALID (R21) -/
  frameValid : Bool
  /-- STAT_MAXTIMINGS (R22) -/
  statMaxTimings : Word
  /-- STAT_PREAMBLE (R22) -/
  statPreamble : Word
  /-- STAT_CSUMOK (R22) -/
  statCsumOk : Word
  /-- STAT_CSUMFAIL (R22) -/
  statCsumFail : Word
  /-- ARG_ID (R23) -/
  argId : Word
  /-- ARG_PRESSURE (R23) -/
  argPressure : Word
  /-- ARG_TEMP (R23) -/
  argTemp : Word
  /-- ARG_NOW (R23) -/
  argNow : Word
  /-- CFG_ID[0..3] (R24) -/
  cfgId : Vector Word 4
  /-- SLOT[0..11] (R25) -/
  slots : Vector Slot 12
  /-- VIEW[0..11] (R28) -/
  view : Vector (BitVec 4) 12
  /-- TBLRES (R29) -/
  tblRes : TableResult
  /-- MODEL'S OWN: the host's accesses and resets still to arrive, in order (20_memory R50; log 1). -/
  port : List PortEvent
  /-- MODEL'S OWN: the value the most recent host read returned (20_memory R41; log 2). -/
  readData : Word
  /-- MODEL'S OWN: the number of reset events so far, the argument of the free value of PULSE (log 3). -/
  resets : Nat
deriving DecidableEq, Repr

/-- A fault would stop the block. The spec has none: "there is no fault state and no stuck state" (60_exceptions
R137), so no constructor exists, nobody can raise one, and that is safe (DEDUCED, log 8). -/
inductive Fault where
deriving DecidableEq, Repr

/-- A refusal: the model gives an instruction no meaning. -/
inductive Refusal where
  /-- Raised by an arm of `exec` for an instruction without a meaning; no arm does. Safe: the model stops. -/
  | notModelled (mnemonic : String)
deriving DecidableEq, Repr

/-- The machine right after reset (10_state R30): everything zero or empty, PULSE unspecified (no entry listed,
so every entry reads as the free value), nothing pending at the port. -/
def State.reset : State where
  result := .ok
  lastOpc := 0
  ovfBit := false
  ovfByte := false
  cmdErr := false
  count := 0
  startLevel := false
  pulse := []
  bitBuf := []
  byteBuf := []
  start := 0
  found := false
  cls := .invalid
  csumOk := false
  frame := Vector.replicate 9 0
  frameValid := false
  statMaxTimings := 0
  statPreamble := 0
  statCsumOk := 0
  statCsumFail := 0
  argId := 0
  argPressure := 0
  argTemp := 0
  argNow := 0
  cfgId := Vector.replicate 4 0
  slots := Vector.replicate 12 Slot.empty
  view := Vector.replicate 12 0
  tblRes := ⟨0, .nothing, false⟩
  port := []
  readData := 0
  resets := 0

end Sys2Proof.Machine
end

