-- ==== Sys2Proof/Machine/Flags.lean ====
section
/-!
DEFINITION. The STATUS register: result codes, sticky flags and the word the host reads
(spec/10_state.md R13, R14; spec/60_exceptions.md R135, R138). The flags FOUND, CSUMOK and FRAMEVALID of R13 are
registers of their own, written by the commands' own rules.
-/

namespace Sys2Proof.Machine

/-- The number of a result code (60_exceptions R135). -/
def ResultCode.code : ResultCode → BitVec 4
  | .ok => 0#4
  | .noPreamble => 1#4
  | .checksumFail => 2#4
  | .bitOverflow => 3#4
  | .byteOverflow => 4#4
  | .zeroId => 5#4
  | .illegalCmd => 15#4

/-- RESULT <- c: every command ends with this (10_state R14). -/
def State.setResult (c : ResultCode) (s : State) : State := { s with result := c }

/-- STATUS.LASTOPC <- b (30_encoding R60 (1)). -/
def State.setLastOpc (b : Byte) (s : State) : State := { s with lastOpc := b }

/-- The sticky flag of a code, if it has one, <- 1 (60_exceptions R135, R138). No operation clears a sticky flag;
only reset does. -/
def State.setSticky (c : ResultCode) (s : State) : State :=
  { s with
    ovfBit := s.ovfBit || c == .bitOverflow
    ovfByte := s.ovfByte || c == .byteOverflow
    cmdErr := s.cmdErr || c == .illegalCmd }

/-- STATUS as the host reads it (10_state R14): RESULT in 3:0, LASTOPC in 15:8, OVF_BIT 16, OVF_BYTE 17,
CMDERR 18, every other bit 0. -/
def statusWord (s : State) : Word :=
  field s.result.code 0 ||| field s.lastOpc 8 ||| field (BitVec.ofBool s.ovfBit) 16
    ||| field (BitVec.ofBool s.ovfByte) 17 ||| field (BitVec.ofBool s.cmdErr) 18

end Sys2Proof.Machine
end

