-- ==== Sys2Proof/Machine/Ops.lean ====
section
/-!
DEFINITION. The named operations over the state: bounded append and saturating arithmetic (spec/00_scope.md R6,
R7), the pulse memory (spec/10_state.md R17), `raise` (spec/60_exceptions.md R136), the writes of the registers a
command owns (spec/30_encoding.md R67) and the reset event (spec/70_reset_and_hazards.md R150).
-/

namespace Sys2Proof.Machine

/-- `append(s, e)` on a buffer of capacity `cap`: the longer buffer, or `none` for "overflow", where the buffer is
left as it was (00_scope R7). -/
def append {α : Type} (cap : Nat) (buf : List α) (e : α) : Option (List α) :=
  if buf.length < cap then some (buf ++ [e]) else none

/-- `sat_add_32` (00_scope R6): the sum on unbounded integers, then clamped. -/
def satAdd32 (a : Word) (b : Nat) : Word := BitVec.ofNat 32 (min (a.toNat + b) (2 ^ 32 - 1))

/-- The entry the host wrote, if it wrote one since reset (10_state R17). -/
def Memory.lookup : Memory → Nat → Option Duration
  | [], _ => none
  | (k, d) :: rest, i => if i = k then some d else Memory.lookup rest i

/-- A write of one entry, keeping the indices strictly rising. -/
def Memory.store : Memory → Nat → Duration → Memory
  | [], i, v => [(i, v)]
  | (k, d) :: rest, i, v =>
    if i < k then (i, v) :: (k, d) :: rest
    else if i = k then (i, v) :: rest
    else (k, d) :: Memory.store rest i v

/-- All indices of a list of entries are above `i` and rising. -/
def Memory.risingFrom : Nat → Memory → Bool
  | _, [] => true
  | lo, (k, _) :: rest => decide (lo ≤ k) && decide (k < Config.pulseCap) && Memory.risingFrom (k + 1) rest

/-- The canonical form: indices strictly rising and below 255. -/
def Memory.wf (m : Memory) : Bool := Memory.risingFrom 0 m

/-- PULSE[k]: the entry written since reset, else the free value of that reset (10_state R17; 93 U1; log 3). -/
def State.pulseAt (s : State) (k : Nat) : Duration :=
  (Memory.lookup s.pulse k).getD (Config.pulseAtReset s.resets k)

/-- `raise c` (60_exceptions R136), the one shared operation that stands where other machines take an exception:
the command ends, what it wrote stays written, RESULT <- c, and the sticky flag of `c`, if any, <- 1. No register
is saved and no control moves (R141); there is no return operation (R142). -/
def State.raise (c : ResultCode) (s : State) : State := (s.setSticky c).setResult c

/-- CLASS <- c. -/
def State.setCls (c : PulseClass) (s : State) : State := { s with cls := c }

/-- BITBUF <- bits ; BITLEN <- len(bits). -/
def State.setBitBuf (bits : List Bool) (s : State) : State := { s with bitBuf := bits }

/-- FOUND and START together (10_state R20). -/
def State.setSearch (found : Bool) (start : BitVec 8) (s : State) : State :=
  { s with found := found, start := start }

/-- BYTEBUF <- bytes ; BYTELEN <- len(bytes). -/
def State.setByteBuf (bytes : List Byte) (s : State) : State := { s with byteBuf := bytes }

/-- CSUMOK <- b. -/
def State.setCsumOk (b : Bool) (s : State) : State := { s with csumOk := b }

/-- FRAME[0..9) <- f ; FRAMEVALID <- v (10_state R21). -/
def State.setFrame (f : Vector Byte 9) (v : Bool) (s : State) : State := { s with frame := f, frameValid := v }

/-- STAT_MAXTIMINGS <- max(STAT_MAXTIMINGS, COUNT) (44_frame_decode R105 step 2). -/
def State.noteTimings (s : State) : State :=
  { s with statMaxTimings := BitVec.ofNat 32 (max s.statMaxTimings.toNat s.count.toNat) }

/-- STAT_PREAMBLE <- sat_add_32(STAT_PREAMBLE, 1). -/
def State.countPreamble (s : State) : State := { s with statPreamble := satAdd32 s.statPreamble 1 }

/-- STAT_CSUMOK <- sat_add_32(STAT_CSUMOK, 1). -/
def State.countCsumOk (s : State) : State := { s with statCsumOk := satAdd32 s.statCsumOk 1 }

/-- STAT_CSUMFAIL <- sat_add_32(STAT_CSUMFAIL, 1). -/
def State.countCsumFail (s : State) : State := { s with statCsumFail := satAdd32 s.statCsumFail 1 }

/-- The whole table written at once. -/
def State.setSlots (t : Vector Slot 12) (s : State) : State := { s with slots := t }

/-- VIEW[0..11] <- v. -/
def State.setView (v : Vector (BitVec 4) 12) (s : State) : State := { s with view := v }

/-- TBLRES <- r. -/
def State.setTblRes (r : TableResult) (s : State) : State := { s with tblRes := r }

/-- The port after an access was taken from it. -/
def State.setPort (p : List PortEvent) (s : State) : State := { s with port := p }

/-- The value a host read returns (log 2). -/
def State.setReadData (v : Word) (s : State) : State := { s with readData := v }

/-- A reset event (70_reset_and_hazards R150): every piece of the block's state at the value of 10_state R30, PULSE
unspecified again (the next number of the free value); what the host still has to send, and what it last read, are
not the block's and stay (DESIGN CHOICE, log 5). -/
def State.takeReset (s : State) : State :=
  { State.reset with port := s.port, readData := s.readData, resets := s.resets + 1 }

end Sys2Proof.Machine
end

