-- ==== Sys2Proof/Machine/Operands.lean ====
section
/-!
DEFINITION. The operands commands take from registers (spec/10_state.md R11, R16; spec/30_encoding.md R62, R67).
-/

namespace Sys2Proof.Machine

/-- PULSE[0..COUNT), read in ascending order, each once (20_memory R54). -/
def State.capture (s : State) : List Duration := (List.range s.count.toNat).map s.pulseAt

/-- FRAME[0..9) from a validated byte sequence (44_frame_decode R105 step 7). The
frame has nine bytes whenever this is used (43_checksum R100). -/
def frameOf (bytes : List Byte) : Vector Byte 9 := Vector.ofFn fun j => bytes.getD j.val 0

/-- FRAME cleared (44_frame_decode R105). -/
def zeroFrame : Vector Byte 9 := Vector.replicate 9 0

/-- `valid` = IMM[0] of APPLYCFG (30_encoding R62). -/
def validBit (imm : BitVec 16) : Bool := imm.getLsbD 0

end Sys2Proof.Machine
end

