-- ==== Sys2Proof/Machine/Checksum.lean ====
section
/-!
DEFINITION. The XOR checksum validator: CSUM (spec/43_checksum.md R100, R101).
-/

namespace Sys2Proof.Machine

/-- The XOR of a sequence of bytes. -/
def xorBytes (bytes : List Byte) : Byte := bytes.foldl (· ^^^ ·) 0#8

/-- `csum_valid(bytes)` (R100): false below nine bytes; a tenth byte takes no part. -/
def csumValid (bytes : List Byte) : Bool :=
  match bytes[8]? with
  | none => false
  | some c => xorBytes (bytes.take 8) == c

/-- CSUM (R101). A mismatch sets no sticky flag. -/
def execCsum (s : State) : Host.Outcome State Fault Refusal :=
  if csumValid s.byteBuf then .next ((s.setCsumOk true).setResult .ok)
  else .next ((s.setCsumOk false).raise .checksumFail)

end Sys2Proof.Machine
end

