-- ==== Sys2Proof/Machine/Manchester.lean ====
section
/-!
DEFINITION. The Manchester decoder: MANDEC (spec/42_manchester.md R95, R97).
-/

namespace Sys2Proof.Machine

/-- The 16-bit shift register after the given raw bits: each enters at bit 0, so the first ends in bit 15 (R95). -/
def shiftIn (bits : List Bool) : BitVec 16 :=
  bits.foldl (fun w b => (w <<< 1) ||| (BitVec.ofBool b).zeroExtend 16) 0#16

/-- The inner loop of R95, `k` steps: the top two bits of `v` give one output bit, `v` moves left by 2, the output
bit enters the byte at bit 0. -/
def symbolLoop : Nat → BitVec 16 → Byte → Byte
  | 0, _, b => b
  | k + 1, v, b =>
    symbolLoop k (v <<< 2) ((b <<< 1) ||| (BitVec.ofBool (decide (v &&& 0xC000#16 ≠ 0#16))).zeroExtend 8)

/-- One byte from sixteen raw bits: shift in, remove the clock, eight output bits (R95). -/
def manchesterByte (group : List Bool) : Byte := symbolLoop 8 (shiftIn group ^^^ Config.clockMask) 0#8

/-- The outer loop of R95 for `n` complete groups of the raw bits `rest`; stops at the first rejected append. -/
def mandecLoop : Nat → List Bool → List Byte → List Byte × Bool
  | 0, _, bytes => (bytes, false)
  | n + 1, rest, bytes =>
    match append Config.byteCap bytes (manchesterByte (rest.take 16)) with
    | none => (bytes, true)
    | some bytes' => mandecLoop n (rest.drop 16) bytes'

/-- `mandec(bits, start)` (R95): the loop runs once for each complete group of 16 after `start`, and not at all
when `start` is beyond the end. -/
def mandec (bits : List Bool) (start : Nat) : List Byte × Bool :=
  mandecLoop ((bits.length - start) / 16) (bits.drop start) []

/-- MANDEC (R97). It uses START as it stands and does not look at FOUND. -/
def execMandec (s : State) : Host.Outcome State Fault Refusal :=
  match mandec s.bitBuf s.start.toNat with
  | (bytes, true) => .next ((s.setByteBuf bytes).raise .byteOverflow)
  | (bytes, false) => .next ((s.setByteBuf bytes).setResult .ok)

end Sys2Proof.Machine
end

