-- ==== Sys2Proof/Machine/Preamble.lean ====
section
/-!
DEFINITION. The preamble synchronizer: FINDPRE (spec/41_preamble_sync.md R90, R92).
-/

namespace Sys2Proof.Machine

/-- The search of R90 from candidate index `c`, whose raw bits from `c` on are given. A complete preamble is found
even as the last 16 bits (90_conflicts C2). -/
def findpreFrom (c : Nat) : List Bool → Option Nat
  | [] => none
  | b :: rest =>
    if Config.preamble.isPrefixOf (b :: rest) then some (c + Config.preLen) else findpreFrom (c + 1) rest

/-- `findpre(bits)` (R90): the index of the first raw bit after the first preamble. -/
def findpre (bits : List Bool) : Option Nat := findpreFrom 0 bits

/-- FINDPRE (R92). A missing preamble sets no sticky flag. -/
def execFindpre (s : State) : Host.Outcome State Fault Refusal :=
  match findpre s.bitBuf with
  | some start => .next ((s.setSearch true (BitVec.ofNat 8 start)).setResult .ok)
  | none => .next ((s.setSearch false 0#8).raise .noPreamble)

end Sys2Proof.Machine
end

