-- ==== Sys2Proof/Machine/Pulse.lean ====
section
/-!
DEFINITION. The pulse-width classifier and the bit decoder: CLASSIFY, BITDEC
(spec/40_pulse_bit_recovery.md R80 to R83).
-/

namespace Sys2Proof.Machine

/-- `classify(d)` (R80): Invalid below 20, Short below 80, Long from 80 on. -/
def classify (d : Duration) : PulseClass :=
  if d.toNat < Config.tMin then .invalid
  else if d.toNat < Config.tLong then .short
  else .long

/-- How many raw bits a pulse of a class contributes; also the class number (R80, R82). -/
def PulseClass.reps : PulseClass → Nat
  | .invalid => 0
  | .short => 1
  | .long => 2

/-- Append `level` to BITBUF `reps` times; stops at the first rejected append and reports it (R82). -/
def appendLevel : Nat → Bool → List Bool → List Bool × Bool
  | 0, _, bits => (bits, false)
  | r + 1, level, bits =>
    match append Config.bitCap bits level with
    | none => (bits, true)
    | some bits' => appendLevel r level bits'

/-- The loop of `bitdec` (R82) from a level and the bits held so far: the level toggles after every pulse,
whatever its class. -/
def bitdecLoop : List Duration → Bool → List Bool → List Bool × Bool
  | [], _, bits => (bits, false)
  | d :: rest, level, bits =>
    match appendLevel (classify d).reps level bits with
    | (bits', true) => (bits', true)
    | (bits', false) => bitdecLoop rest (!level) bits'

/-- `bitdec(pulses, startLevel)` (R82): the bits and whether an append was rejected. -/
def bitdec (pulses : List Duration) (startLevel : Bool) : List Bool × Bool := bitdecLoop pulses startLevel []

/-- CLASSIFY (R81): CLASS <- encode(classify(d)); always OK. -/
def execClassify (d : Duration) (s : State) : Host.Outcome State Fault Refusal :=
  .next ((s.setCls (classify d)).setResult .ok)

/-- BITDEC (R83). -/
def execBitdec (s : State) : Host.Outcome State Fault Refusal :=
  match bitdec s.capture s.startLevel with
  | (bits, true) => .next ((s.setBitBuf bits).raise .bitOverflow)
  | (bits, false) => .next ((s.setBitBuf bits).setResult .ok)

end Sys2Proof.Machine
end

