-- ==== Sys2Proof/Machine/FrameDecode.lean ====
section
/-!
DEFINITION. The whole pipeline: DECODE (spec/44_frame_decode.md R105 to R109), one function per exit, in the order
of the exits (R109).
-/

namespace Sys2Proof.Machine

/-- "clear every result of an earlier decode" (R105, after step 2). -/
def State.clearDecode (s : State) : State :=
  (((s.setSearch false 0#8).setByteBuf []).setCsumOk false).setFrame zeroFrame false

/-- Step 7: the checksum of the first nine bytes decides. A tenth byte stays in BYTEBUF only (R107). -/
def decodeCheck (bytes : List Byte) (s : State) : State :=
  if csumValid (bytes.take Config.frameLen) then
    (((s.setCsumOk true).countCsumOk).setFrame (frameOf (bytes.take Config.frameLen)) true).setResult .ok
  else (s.countCsumFail).raise .checksumFail

/-- Step 6: the Manchester stage from `start`, its overflow the third exit (R108). -/
def decodeBytes (start : Nat) (s : State) : State :=
  match mandec s.bitBuf start with
  | (bytes, true) => (s.setByteBuf bytes).raise .byteOverflow
  | (bytes, false) => decodeCheck bytes (s.setByteBuf bytes)

/-- Steps 4 and 5: the search, no preamble the second exit; STAT_PREAMBLE counts before the Manchester stage. -/
def decodeSearch (s : State) : State :=
  match findpre s.bitBuf with
  | none => s.raise .noPreamble
  | some start => decodeBytes start ((s.setSearch true (BitVec.ofNat 8 start)).countPreamble)

/-- Step 3: bit recovery, bit overflow the first exit: no search is made then (R108). -/
def decodeBits (s : State) : State :=
  match bitdec s.capture s.startLevel with
  | (bits, true) => (s.setBitBuf bits).raise .bitOverflow
  | (bits, false) => decodeSearch (s.setBitBuf bits)

/-- DECODE (R105). STAT_MAXTIMINGS moves before anything can fail (R106). -/
def execDecode (s : State) : Host.Outcome State Fault Refusal := .next (decodeBits (s.noteTimings.clearDecode))

end Sys2Proof.Machine
end

