-- ==== Sys2Proof/Machine/Table.lean ====
section
/-!
DEFINITION. The sensor table with score-based eviction: ONFRAME, DECAY, VIEW, APPLYCFG
(spec/45_sensor_table.md R115 to R131) and the derived state of a slot (spec/10_state.md R26).
-/

namespace Sys2Proof.Machine

/-- Slots 0..3, the configured slots, in order (10_state R25). -/
def configuredSlots : List (Fin 12) := [0, 1, 2, 3]

/-- Slots 4..11, the extra slots, in order (10_state R25). -/
def extraSlots : List (Fin 12) := [4, 5, 6, 7, 8, 9, 10, 11]

/-- SCORE after a sighting: the sum on integers, then clamped to SCORE_MAX (R116). -/
def scoreUp (score : Byte) : Byte := BitVec.ofNat 8 (min (score.toNat + Config.scoreAdd) Config.scoreMax)

/-- SCORE after a decay tick: `sat_sub(SCORE, SCORE_DEC)` (R120). -/
def scoreDown (score : Byte) : Byte := BitVec.ofNat 8 (score.toNat - Config.scoreDec)

/-- `update` (R116): the record of a slot refreshed by a sighting; the ID is not written. -/
def sighted (r : Slot) (p t now : Word) : Slot :=
  { r with pressure := p, temp := t, score := scoreUp r.score, lastSeen := now }

/-- The least index among `candidates` (in order) whose slot holds `id`, if any (R117). -/
def matchIn (slots : Vector Slot 12) (id : Word) (candidates : List (Fin 12)) : Option (Fin 12) :=
  candidates.find? fun i => slots[i].id == id

/-- Lexicographic order on keys of equal length (R118). -/
def lexLess : List Nat → List Nat → Bool
  | a :: as, b :: bs => decide (a < b) || (decide (a = b) && lexLess as bs)
  | _, _ => false

/-- `key(i)` (R118): score, lastSeen, empty before live, index. -/
def victimKey (slots : Vector Slot 12) (i : Fin 12) : List Nat :=
  [slots[i].score.toNat, slots[i].lastSeen.toNat, if slots[i].id = 0#32 then 0 else 1, i.val]

/-- `victim()` (R118): the extra slot whose key is smallest; scanning upward, replaced only by a smaller key. -/
def victim (slots : Vector Slot 12) : Fin 12 :=
  extraSlots.foldl (fun best i => if lexLess (victimKey slots i) (victimKey slots best) then i else best) 4

/-- ONFRAME on a sighting of slot `i`: the slot refreshed, TBLRES says which and how, OK (R116, R117). -/
def sightSlot (i : Fin 12) (kind : TableKind) (s : State) : State :=
  ((s.setSlots (s.slots.set i.val (sighted s.slots[i] s.argPressure s.argTemp s.argNow))).setTblRes
    ⟨BitVec.ofNat 4 i.val, kind, false⟩).setResult .ok

/-- ONFRAME on an id the table does not hold: slot `v` overwritten; EVICT when it held an id (R117). -/
def placeSlot (v : Fin 12) (s : State) : State :=
  ((s.setSlots (s.slots.set v.val
      ⟨s.argId, s.argPressure, s.argTemp, BitVec.ofNat 8 Config.scoreAdd, s.argNow⟩)).setTblRes
    ⟨BitVec.ofNat 4 v.val, .placed, decide (s.slots[v].id ≠ 0#32)⟩).setResult .ok

/-- ONFRAME (R117): id 0 is turned away before any slot is looked at (R119); a configured match comes before an
extra match, and a new id goes to the victim. -/
def execOnframe (s : State) : Host.Outcome State Fault Refusal :=
  if s.argId = 0#32 then .next ((s.setTblRes ⟨0#4, .nothing, false⟩).raise .zeroId)
  else
    match matchIn s.slots s.argId configuredSlots with
    | some i => .next (sightSlot i .configured s)
    | none =>
      match matchIn s.slots s.argId extraSlots with
      | some i => .next (sightSlot i .extra s)
      | none => .next (placeSlot (victim s.slots) s)

/-- One slot of DECAY (R120): the score goes down; an extra slot that reaches 0 is cleared. -/
def decaySlot (i : Fin 12) (r : Slot) : Slot :=
  let score := scoreDown r.score
  if Config.nConfigured ≤ i.val ∧ score = 0#8 then Slot.empty else { r with score := score }

/-- DECAY (R120). It does not read ARG_NOW. -/
def execDecay (s : State) : Host.Outcome State Fault Refusal :=
  .next ((s.setSlots (Vector.ofFn fun i => decaySlot i s.slots[i])).setResult .ok)

/-- The order of VIEW (R125): ascending `( -SCORE, i )`, so higher score first, equal scores by index. -/
def viewBefore (slots : Vector Slot 12) (i j : Fin 12) : Bool :=
  decide (slots[j].score.toNat < slots[i].score.toNat)
    || (decide (slots[i].score.toNat = slots[j].score.toNat) && decide (i.val < j.val))

/-- Insert a slot index into a list sorted by `viewBefore`. -/
def insertView (slots : Vector Slot 12) (i : Fin 12) : List (Fin 12) → List (Fin 12)
  | [] => [i]
  | j :: rest => if viewBefore slots i j then i :: j :: rest else j :: insertView slots i rest

/-- The extra slots sorted for VIEW (R125). -/
def sortedExtra (slots : Vector Slot 12) : List (Fin 12) := extraSlots.foldr (insertView slots) []

/-- VIEW (R125): the configured slots in order, then the extra slots, as twelve 4-bit indices. -/
def viewOrder (slots : Vector Slot 12) : Vector (BitVec 4) 12 :=
  Vector.ofFn fun k => BitVec.ofNat 4 (((configuredSlots ++ sortedExtra slots)[k.val]?.getD 0).val)

/-- VIEW (R125). It changes no slot. -/
def execView (s : State) : Host.Outcome State Fault Refusal := .next ((s.setView (viewOrder s.slots)).setResult .ok)

/-- One slot of APPLYCFG (R131): a configured slot is cleared and takes its id from CFG_ID when `valid`; an extra
slot is left untouched. -/
def configSlot (valid : Bool) (cfgId : Vector Word 4) (i : Fin 12) (r : Slot) : Slot :=
  if h : i.val < 4 then { Slot.empty with id := if valid then cfgId[i.val] else 0#32 } else r

/-- APPLYCFG (R131): unconditional, a slot whose id does not change is reset all the same. -/
def execApplycfg (imm : BitVec 16) (s : State) : Host.Outcome State Fault Refusal :=
  .next ((s.setSlots (Vector.ofFn fun i => configSlot (validBit imm) s.cfgId i s.slots[i])).setResult .ok)

/-- The state of a slot (10_state R26). -/
inductive SlotState where
  | empty
  | configuredIdle
  | configuredLive
  | extraLive
deriving DecidableEq, Repr

/-- R26: a function of the slot's fields and its index. -/
def slotState (i : Fin 12) (r : Slot) : SlotState :=
  if r.id = 0#32 then .empty
  else if i.val < Config.nConfigured then (if r.score = 0#8 then .configuredIdle else .configuredLive)
  else .extraLive

/-- The number SLOT[i].STATE reads as (R26). -/
def SlotState.code : SlotState → BitVec 2
  | .empty => 0#2
  | .configuredIdle => 1#2
  | .configuredLive => 2#2
  | .extraLive => 3#2

end Sys2Proof.Machine
end

