-- ==== Sys2Proof/Machine/Dispatch.lean ====
section
/-! DEFINITION. The meaning of each command, one arm per constructor of Instr (spec/30_encoding.md R63). -/

namespace Sys2Proof.Machine

def exec (i : Instr) (s : State) : Host.Outcome State Fault Refusal :=
  match i with
  | .classify d => Sys2Proof.Machine.execClassify d s
  | .bitdec => Sys2Proof.Machine.execBitdec s
  | .findpre => Sys2Proof.Machine.execFindpre s
  | .mandec => Sys2Proof.Machine.execMandec s
  | .csum => Sys2Proof.Machine.execCsum s
  | .decode => Sys2Proof.Machine.execDecode s
  | .onframe => Sys2Proof.Machine.execOnframe s
  | .decay => Sys2Proof.Machine.execDecay s
  | .view => Sys2Proof.Machine.execView s
  | .applycfg imm => Sys2Proof.Machine.execApplycfg imm s

end Sys2Proof.Machine
end

