-- ==== Sys2Proof/Machine/Port.lean ====
section
/-!
DEFINITION. The register port: the address map, what a host read returns and what a host write stores
(spec/20_memory.md R40 to R46; the windows of spec/10_state.md R14 to R29).
-/

namespace Sys2Proof.Machine

/-- The fields of SLOT[i] (10_state R25, R26). -/
inductive SlotField where
  | id
  | pressure
  | temp
  | score
  | lastSeen
  | state
deriving DecidableEq, Repr

/-- The registers of the map, by name (20_memory R43). -/
inductive Reg where
  | cmd | status | count | startLevel | bitLen | start | found | byteLen | cls | csumOk | frameValid | tblRes
  | frame (j : Fin 3)
  | statMaxTimings | statPreamble | statCsumOk | statCsumFail
  | argId | argPressure | argTemp | argNow
  | cfgId (j : Fin 4)
  | view (j : Fin 2)
  | bytes (j : Fin 3)
  | bits (j : Fin 7)
  | slot (i : Fin 12) (f : SlotField)
  | pulse (k : Fin 255)
deriving DecidableEq, Repr

/-- The offset of a field in its slot (10_state R25). -/
def SlotField.offset : SlotField → Nat
  | .id => 0x00
  | .pressure => 0x04
  | .temp => 0x08
  | .score => 0x0C
  | .lastSeen => 0x10
  | .state => 0x14

/-- The byte offset of a register (20_memory R43). -/
def Reg.offset : Reg → Nat
  | .cmd => 0x000
  | .status => 0x004
  | .count => 0x008
  | .startLevel => 0x00C
  | .bitLen => 0x010
  | .start => 0x014
  | .found => 0x018
  | .byteLen => 0x01C
  | .cls => 0x020
  | .csumOk => 0x024
  | .frameValid => 0x028
  | .tblRes => 0x02C
  | .frame j => 0x030 + 4 * j.val
  | .statMaxTimings => 0x040
  | .statPreamble => 0x044
  | .statCsumOk => 0x048
  | .statCsumFail => 0x04C
  | .argId => 0x050
  | .argPressure => 0x054
  | .argTemp => 0x058
  | .argNow => 0x05C
  | .cfgId j => 0x060 + 4 * j.val
  | .view j => 0x070 + 4 * j.val
  | .bytes j => 0x080 + 4 * j.val
  | .bits j => 0x0A0 + 4 * j.val
  | .slot i f => 0x100 + 0x20 * i.val + f.offset
  | .pulse k => 0x400 + 4 * k.val

/-- The word index of a register: its byte offset over 4 (20_memory R40). -/
def Reg.index (r : Reg) : WordIndex := BitVec.ofNat 9 (r.offset / 4)

/-- The implemented bits of a register ("Bits", 20_memory R43); every other bit reads 0 (R44). -/
def Reg.implemented : Reg → Word
  | .status => 0x0007FF0F#32
  | .count | .bitLen | .start => 0x000000FF#32
  | .startLevel | .found | .csumOk | .frameValid => 0x00000001#32
  | .byteLen => 0x0000000F#32
  | .cls => 0x00000003#32
  | .tblRes => 0x0000007F#32
  | .frame j => if j.val = 2 then 0xFF000000#32 else 0xFFFFFFFF#32
  | .view j => if j.val = 1 then 0x0000FFFF#32 else 0xFFFFFFFF#32
  | .bytes j => if j.val = 2 then 0xFFFF0000#32 else 0xFFFFFFFF#32
  | .bits j => if j.val = 6 then 0xFF000000#32 else 0xFFFFFFFF#32
  | .slot _ .score => 0x000000FF#32
  | .slot _ .state => 0x00000003#32
  | .slot _ .id | .slot _ .pressure | .slot _ .temp | .slot _ .lastSeen => 0xFFFFFFFF#32
  | .pulse _ => 0x0000FFFF#32
  | .cmd | .statMaxTimings | .statPreamble | .statCsumOk | .statCsumFail => 0xFFFFFFFF#32
  | .argId | .argPressure | .argTemp | .argNow | .cfgId _ => 0xFFFFFFFF#32

/-- The access a register gives the host (20_memory R43). -/
inductive Access where
  | writeOnly
  | readOnly
  | readWrite
deriving DecidableEq, Repr

/-- The "access" column of the map (20_memory R43). -/
def Reg.access : Reg → Access
  | .cmd => .writeOnly
  | .count | .startLevel | .start | .argId | .argPressure | .argTemp | .argNow | .cfgId _ | .pulse _ => .readWrite
  | .status | .bitLen | .found | .byteLen | .cls | .csumOk | .frameValid | .tblRes | .frame _ => .readOnly
  | .statMaxTimings | .statPreamble | .statCsumOk | .statCsumFail => .readOnly
  | .view _ | .bytes _ | .bits _ | .slot _ _ => .readOnly

/-- The slot fields by word within the slot; words 6 and 7 are reserved (20_memory R44). -/
def slotFieldAt : Nat → Option SlotField
  | 0 => some .id
  | 1 => some .pressure
  | 2 => some .temp
  | 3 => some .score
  | 4 => some .lastSeen
  | 5 => some .state
  | _ => none

/-- The registers below 0x100 by word index (20_memory R43, R44: what is missing here is reserved). -/
def lowRegAt : Nat → Option Reg
  | 0 => some .cmd
  | 1 => some .status
  | 2 => some .count
  | 3 => some .startLevel
  | 4 => some .bitLen
  | 5 => some .start
  | 6 => some .found
  | 7 => some .byteLen
  | 8 => some .cls
  | 9 => some .csumOk
  | 10 => some .frameValid
  | 11 => some .tblRes
  | 12 => some (.frame 0)
  | 13 => some (.frame 1)
  | 14 => some (.frame 2)
  | 16 => some .statMaxTimings
  | 17 => some .statPreamble
  | 18 => some .statCsumOk
  | 19 => some .statCsumFail
  | 20 => some .argId
  | 21 => some .argPressure
  | 22 => some .argTemp
  | 23 => some .argNow
  | 24 => some (.cfgId 0)
  | 25 => some (.cfgId 1)
  | 26 => some (.cfgId 2)
  | 27 => some (.cfgId 3)
  | 28 => some (.view 0)
  | 29 => some (.view 1)
  | 32 => some (.bytes 0)
  | 33 => some (.bytes 1)
  | 34 => some (.bytes 2)
  | 40 => some (.bits 0)
  | 41 => some (.bits 1)
  | 42 => some (.bits 2)
  | 43 => some (.bits 3)
  | 44 => some (.bits 4)
  | 45 => some (.bits 5)
  | 46 => some (.bits 6)
  | _ => none

/-- The address map, from a word index to its register; `none` is a reserved offset (20_memory R43, R44). -/
def regAt (index : WordIndex) : Option Reg :=
  if h : 256 ≤ index.toNat ∧ index.toNat < 511 then some (.pulse ⟨index.toNat - 256, by omega⟩)
  else if h : 64 ≤ index.toNat ∧ index.toNat < 160 then
    (slotFieldAt ((index.toNat - 64) % 8)).map (.slot ⟨(index.toNat - 64) / 8, by omega⟩)
  else lowRegAt index.toNat

/-- Four bytes in a word, the first most significant (20_memory R45). -/
def packBytes (b0 b1 b2 b3 : Byte) : Word :=
  field b0 24 ||| field b1 16 ||| field b2 8 ||| field b3 0

/-- One bit in bit 0 of a word. -/
def boolWord (b : Bool) : Word := field (BitVec.ofBool b) 0

/-- BYTES[j] (10_state R19): byte positions from BYTELEN on, and positions 10 and 11, read 0. -/
def bytesWord (bytes : List Byte) (j : Nat) : Word :=
  let at10 := fun k => (bytes.take Config.byteCap).getD (4 * j + k) 0#8
  packBytes (at10 0) (at10 1) (at10 2) (at10 3)

/-- BITS[j] (10_state R18): raw bit i is bit 31 - (i mod 32); indices from BITLEN on, and from 200 on, read 0. -/
def bitsWord (bits : List Bool) (j : Nat) : Word :=
  (List.range 32).foldl
    (fun w r => (w <<< 1) ||| boolWord ((bits.take Config.bitCap).getD (32 * j + r) false)) 0#32

/-- The number of a pulse class (40_pulse_bit_recovery R80). -/
def PulseClass.code (c : PulseClass) : BitVec 2 := BitVec.ofNat 2 c.reps

/-- The number of TBLRES.KIND (10_state R29). -/
def TableKind.code : TableKind → BitVec 2
  | .nothing => 0#2
  | .configured => 1#2
  | .extra => 2#2
  | .placed => 3#2

/-- TBLRES as the host reads it (10_state R29): SLOT in 3:0, KIND in 5:4, EVICT in 6. -/
def tblResWord (t : TableResult) : Word :=
  field t.slot 0 ||| field t.kind.code 4 ||| field (BitVec.ofBool t.evict) 6

/-- A field of SLOT[i] as the host reads it (10_state R25, R26). -/
def slotWord (i : Fin 12) (r : Slot) : SlotField → Word
  | .id => r.id
  | .pressure => r.pressure
  | .temp => r.temp
  | .score => field r.score 0
  | .lastSeen => r.lastSeen
  | .state => field (slotState i r).code 0

/-- FRAME0, FRAME1, FRAME2 (10_state R21). -/
def frameWord (f : Vector Byte 9) (j : Fin 3) : Word :=
  let at9 := fun k => f.toList.getD (4 * j.val + k) 0#8
  packBytes (at9 0) (at9 1) (at9 2) (at9 3)

/-- VIEW0 and VIEW1 (10_state R28): entry 8j + k in bits 4k+3 : 4k, entries past 11 read 0. -/
def viewWord (v : Vector (BitVec 4) 12) (j : Fin 2) : Word :=
  let at12 := fun k => v.toList.getD (8 * j.val + k) 0#4
  field (at12 7) 28 ||| field (at12 6) 24 ||| field (at12 5) 20 ||| field (at12 4) 16
    ||| field (at12 3) 12 ||| field (at12 2) 8 ||| field (at12 1) 4 ||| field (at12 0) 0

/-- What a read of a register returns: its implemented bits in place, zero elsewhere; CMD reads 0 (20_memory R41,
R43). -/
def readReg (s : State) : Reg → Word
  | .cmd => 0#32
  | .status => statusWord s
  | .count => field s.count 0
  | .startLevel => boolWord s.startLevel
  | .bitLen => field (BitVec.ofNat 8 s.bitBuf.length) 0
  | .start => field s.start 0
  | .found => boolWord s.found
  | .byteLen => field (BitVec.ofNat 4 s.byteBuf.length) 0
  | .cls => field s.cls.code 0
  | .csumOk => boolWord s.csumOk
  | .frameValid => boolWord s.frameValid
  | .tblRes => tblResWord s.tblRes
  | .frame j => frameWord s.frame j
  | .statMaxTimings => s.statMaxTimings
  | .statPreamble => s.statPreamble
  | .statCsumOk => s.statCsumOk
  | .statCsumFail => s.statCsumFail
  | .argId => s.argId
  | .argPressure => s.argPressure
  | .argTemp => s.argTemp
  | .argNow => s.argNow
  | .cfgId j => s.cfgId[j]
  | .view j => viewWord s.view j
  | .bytes j => bytesWord s.byteBuf j.val
  | .bits j => bitsWord s.bitBuf j.val
  | .slot i f => slotWord i s.slots[i] f
  | .pulse k => field (s.pulseAt k.val) 0

/-- `MemRead` (20_memory R41): reserved offsets read 0. -/
def memRead (s : State) (index : WordIndex) : Word :=
  match regAt index with
  | some r => readReg s r
  | none => 0#32

/-- A write of a register other than CMD (20_memory R42): a read-write register takes its implemented bits, a
read-only register ignores the write. -/
def writeReg (s : State) (r : Reg) (v : Word) : State :=
  match r with
  | .count => { s with count := v.truncate 8 }
  | .startLevel => { s with startLevel := v.getLsbD 0 }
  | .start => { s with start := v.truncate 8 }
  | .argId => { s with argId := v }
  | .argPressure => { s with argPressure := v }
  | .argTemp => { s with argTemp := v }
  | .argNow => { s with argNow := v }
  | .cfgId j => { s with cfgId := s.cfgId.set j.val v }
  | .pulse k => { s with pulse := Memory.store s.pulse k.val (v.truncate 16) }
  | .cmd | .status | .bitLen | .found | .byteLen | .cls | .csumOk | .frameValid | .tblRes => s
  | .frame _ | .statMaxTimings | .statPreamble | .statCsumOk | .statCsumFail => s
  | .view _ | .bytes _ | .bits _ | .slot _ _ => s

/-- `MemWrite` at an index other than CMD's (20_memory R42): a reserved offset ignores the write. -/
def memWrite (s : State) (index : WordIndex) (v : Word) : State :=
  match regAt index with
  | some r => writeReg s r v
  | none => s

/-- The word index of CMD (10_state R15). -/
def cmdIndex : WordIndex := 0#9

/-- What arrives next at the port, and the state with it taken from the port; `none` when nothing is pending
(20_memory R50; log 1). -/
def takePort (s : State) : Option (PortEvent × State) :=
  match s.port with
  | [] => none
  | e :: rest => some (e, s.setPort rest)

/-- The host read of an index: only the host's own copy of the value changes (20_memory R41; log 2). -/
def hostRead (index : WordIndex) (s : State) : State := s.setReadData (memRead s index)

end Sys2Proof.Machine
end

