-- ==== Sys2Proof/Machine/Step.lean ====
section
/-!
DEFINITION. One step: the block takes the next port access (spec/20_memory.md R41, R42, R50), runs the command a
write of CMD issues (spec/30_encoding.md R60), or is reset (spec/70_reset_and_hazards.md R150).
-/

namespace Sys2Proof.Machine

/-- R60: a write of `w` to CMD writes LASTOPC, decodes, and runs the command; an illegal word leaves ILLEGAL_CMD and
CMDERR and nothing else (R64). -/
def issue (w : Word) (s : State) : Host.Outcome State Fault Refusal :=
  match decode w with
  | .ok i => exec i (s.setLastOpc (opcodeField w))
  | .error _ => .next ((s.setLastOpc (opcodeField w)).raise .illegalCmd)

/-- One port event. With none pending the block is idle and waits (70_reset_and_hazards R151; DEDUCED, log 13). -/
def step (s : State) : Host.Outcome State Fault Refusal :=
  match takePort s with
  | none => .next s
  | some (.read index, t) => .next (hostRead index t)
  | some (.write index v, t) => if index = cmdIndex then issue v t else .next (memWrite t index v)
  | some (.reset, t) => .next t.takeReset

/-- The host's write of a command word as the next port access: how a command reaches the block (R60, log 1). -/
def State.withFetchWord (s : State) (nbits w : Nat) : State :=
  s.setPort (.write cmdIndex (tableWord nbits w) :: s.port)

end Sys2Proof.Machine
end

