-- ==== Sys2Proof/Machine/ClosedForms.lean ====
section
/-!
DEFINITION. Forms the spec gives beside the pseudocode, for statements: the bits of a capture without the capacity
(spec/40_pulse_bit_recovery.md R84), the two-counter search machine (spec/41_preamble_sync.md R91), the Manchester
encoder and the pulse runs of a frame (spec/42_manchester.md R98; spec/44_frame_decode.md R111). No command calls them.
-/

namespace Sys2Proof.Machine

/-- The raw bits a capture stands for, capacity apart: pulse `k` contributes its class number of copies of the
level `startLevel xor (k mod 2)` (R84 (a), (c)). -/
def rawBits (pulses : List Duration) (startLevel : Bool) : List Bool :=
  (pulses.mapIdx fun k d => List.replicate (classify d).reps (startLevel ^^ (k % 2 == 1))).flatten

/-- The preamble `10101010 10101001` stands at index `c` of the sequence (R90). -/
abbrev PreambleAt (bits : List Bool) (c : Nat) : Prop :=
  (bits.drop c).take 16 =
    [true, false, true, false, true, false, true, false, true, false, true, false, true, false, false, true]

/-- R91: the search as a machine with the counters `candidate` and `matched`, run for at most `fuel` moves. -/
def searchMachine (bits : List Bool) : Nat → Nat → Nat → Option Nat
  | 0, _, _ => none
  | fuel + 1, candidate, matched =>
    if candidate + 16 ≤ bits.length then
      if bits[candidate + matched]? = Config.preamble[matched]? then
        if matched + 1 = 16 then some (candidate + 16) else searchMachine bits fuel candidate (matched + 1)
      else searchMachine bits fuel (candidate + 1) 0
    else none

/-- The two raw bits of a data bit: 0 is `10`, 1 is `01` (R98). -/
def symbol (b : Bool) : List Bool := [!b, b]

/-- The eight data bits of a byte, most significant first. -/
def byteBits (b : Byte) : List Bool := (List.range 8).map fun k => b.getLsbD (7 - k)

/-- `menc` (R98): the Manchester encoding that `mandec` undoes. -/
def menc (bytes : List Byte) : List Bool := bytes.flatMap fun b => (byteBits b).flatMap symbol

/-- The run lengths of a bit sequence as pulse classes: Short for a run of one bit, Long for a pair (R111). -/
def runClasses : List Bool → List PulseClass
  | [] => []
  | [_] => [.short]
  | a :: b :: rest => if a = b then .long :: runClasses rest else .short :: runClasses (b :: rest)

/-- The raw bits of a frame: the preamble, then the encoded payload and its checksum (R111, 90_conflicts C3). -/
def frameBits (payload : List Byte) : List Bool := Config.preamble ++ menc (payload ++ [xorBytes payload])

end Sys2Proof.Machine
end

