-- ==== Sys2Proof/Safety.lean ====
section
/-!
DEFINITION. What holds of every state a run reaches, and the two sides of the block, in the terms the statements use
(spec/10_state.md R18 to R29; spec/30_encoding.md R64, R67). A run is safe when each of these invariants holds in
every state of it.
-/

namespace Sys2Proof.Machine

/-- The table invariants (10_state R27 (a) to (e)). -/
structure TableInv (s : State) : Prop where
  /-- (a) -/
  scoreBound : ∀ i : Fin 12, s.slots[i].score.toNat ≤ 250
  /-- (b) -/
  emptyCleared : ∀ i : Fin 12, s.slots[i].id = 0#32 → s.slots[i] = Slot.empty
  /-- (c) -/
  extraScored : ∀ i : Fin 12, 4 ≤ i.val → s.slots[i].id ≠ 0#32 → 1 ≤ s.slots[i].score.toNat
  /-- (d) -/
  scoreStep : ∀ i : Fin 12, s.slots[i].score.toNat % 10 = 0
  /-- (e) -/
  extraDistinct : ∀ i j : Fin 12, 4 ≤ i.val → 4 ≤ j.val → i ≠ j → s.slots[i].id ≠ 0#32 →
    s.slots[i].id ≠ s.slots[j].id

/-- The buffers stay within their capacities (10_state R18, R19) and the pulse memory in its canonical form. -/
structure BufferInv (s : State) : Prop where
  bits : s.bitBuf.length ≤ 200
  bytes : s.byteBuf.length ≤ 10
  pulses : Memory.wf s.pulse = true

/-- FRAME is nine zero bytes or a frame whose ninth byte is the XOR of its first eight (10_state R21,
43_checksum R100). -/
structure FrameInv (s : State) : Prop where
  cleared : s.frameValid = false → ∀ j : Fin 9, s.frame[j] = 0#8
  checked : s.frameValid = true →
    s.frame[8] = s.frame[0] ^^^ s.frame[1] ^^^ s.frame[2] ^^^ s.frame[3]
      ^^^ s.frame[4] ^^^ s.frame[5] ^^^ s.frame[6] ^^^ s.frame[7]

/-- The counters: STAT_MAXTIMINGS never exceeds 255 (10_state R22), and until STAT_PREAMBLE saturates it counts at
least the checksum outcomes (44_frame_decode R106). -/
structure StatsInv (s : State) : Prop where
  maxTimings : s.statMaxTimings.toNat ≤ 255
  preambleCounts : s.statPreamble.toNat < 2 ^ 32 - 1 →
    s.statCsumOk.toNat + s.statCsumFail.toNat ≤ s.statPreamble.toNat

/-- STATUS, TBLRES and VIEW hold only what a command can leave (10_state R13, R28, R29; 60_exceptions R135;
93_implementation_defined U7). -/
structure ReportInv (s : State) : Prop where
  bitFlag : s.result = .bitOverflow → s.ovfBit = true
  byteFlag : s.result = .byteOverflow → s.ovfByte = true
  errorFlag : s.result = .illegalCmd → s.cmdErr = true
  nothingSlot : s.tblRes.kind = .nothing → s.tblRes.slot = 0#4
  configuredSlot : s.tblRes.kind = .configured → s.tblRes.slot.toNat < 4
  extraSlot : s.tblRes.kind = .extra ∨ s.tblRes.kind = .placed →
    4 ≤ s.tblRes.slot.toNat ∧ s.tblRes.slot.toNat < 12
  evictPlaced : s.tblRes.evict = true → s.tblRes.kind = .placed
  viewEntries : ∀ k : Fin 12, s.view[k].toNat < 12

/-- The clauses of R64, as the spec lists them: which words are illegal. -/
abbrev IllegalWord (w : Word) : Prop :=
  w.extractLsb' 24 8 ≠ 0#8
    ∨ w.extractLsb' 0 8 = 0x00#8 ∨ w.extractLsb' 0 8 = 0x07#8 ∨ 0x0C ≤ (w.extractLsb' 0 8).toNat
    ∨ (w.extractLsb' 0 8 ≠ 0x01#8 ∧ w.extractLsb' 0 8 ≠ 0x0B#8 ∧ w.extractLsb' 8 16 ≠ 0#16)
    ∨ (w.extractLsb' 0 8 = 0x0B#8 ∧ w.extractLsb' 9 15 ≠ 0#15)

/-- The commands of the decode side (30_encoding R63). -/
def onDecodeSide : Instr → Bool
  | .classify _ | .bitdec | .findpre | .mandec | .csum | .decode => true
  | .onframe | .decay | .view | .applycfg _ => false

/-- `s` with the table side of `u`: the table, its results and its operands (30_encoding R67). -/
def withTableSide (s u : State) : State :=
  { s with
    argId := u.argId, argPressure := u.argPressure, argTemp := u.argTemp, argNow := u.argNow
    cfgId := u.cfgId, slots := u.slots, view := u.view, tblRes := u.tblRes }

/-- `s` with the decode side of `u`: the capture, the staging state, the frame and the counters (R67). -/
def withDecodeSide (s u : State) : State :=
  { s with
    count := u.count, startLevel := u.startLevel, pulse := u.pulse, resets := u.resets
    bitBuf := u.bitBuf, byteBuf := u.byteBuf, start := u.start, found := u.found, cls := u.cls, csumOk := u.csumOk
    frame := u.frame, frameValid := u.frameValid
    statMaxTimings := u.statMaxTimings, statPreamble := u.statPreamble
    statCsumOk := u.statCsumOk, statCsumFail := u.statCsumFail }

/-- `s` with the sticky flags given (10_state R13). -/
def withSticky (s : State) (bit byte err : Bool) : State :=
  { s with ovfBit := bit, ovfByte := byte, cmdErr := err }

/-- `s` with DECODE's results taken from `r`: the staging state but CLASS, the frame, the counters and RESULT
(30_encoding R67). -/
def withDecodeResults (s r : State) : State :=
  { s with
    result := r.result
    bitBuf := r.bitBuf, byteBuf := r.byteBuf, start := r.start, found := r.found, csumOk := r.csumOk
    frame := r.frame, frameValid := r.frameValid
    statMaxTimings := r.statMaxTimings, statPreamble := r.statPreamble
    statCsumOk := r.statCsumOk, statCsumFail := r.statCsumFail }

/-- The next port event is not a reset. -/
abbrev noResetNext (s : State) : Prop := ∀ rest, s.port ≠ .reset :: rest

end Sys2Proof.Machine
end

