-- ==== Sys2Proof/Certificates/Slice0/Obligations.lean ====
section
/-!
DEFINITION. The statements for the provers (listed in OBLIGATIONS.json). Numbers in them are the spec's literals, not
the model's constants, so that a wrong constant makes a statement false.
-/

open Sys2Proof Sys2Proof.Machine

/-! ## Encoding -/

/-- Decoding the word of a well-formed command gives it back (30_encoding R61 to R63). -/
def Obligations.DecodeOfEncodeIsTheCommand : Prop :=
  ∀ i : Instr, WellFormed i → decode (encode i) = .ok i

/-- A word that decodes is the word of the command it decodes to, and that command is well formed: no bit of a word
is dropped (30_encoding R61 to R64). -/
def Obligations.EncodeOfDecodeIsTheWord : Prop :=
  ∀ (w : Word) (i : Instr), decode w = .ok i → WellFormed i ∧ encode i = w

/-- R63: the opcode map is the ten rows written out here; a word selects a row when `w and mask = match`, the decoder
reads that row's command and no other, and the rows are disjoint. -/
def Obligations.DecoderFollowsOpcodeMap : Prop :=
  opcodeRows = [
    ⟨"CLASSIFY", 0x00000001#32, 0xFF0000FF#32⟩, ⟨"BITDEC", 0x00000002#32, 0xFFFFFFFF#32⟩,
    ⟨"FINDPRE", 0x00000003#32, 0xFFFFFFFF#32⟩, ⟨"MANDEC", 0x00000004#32, 0xFFFFFFFF#32⟩,
    ⟨"CSUM", 0x00000005#32, 0xFFFFFFFF#32⟩, ⟨"DECODE", 0x00000006#32, 0xFFFFFFFF#32⟩,
    ⟨"ONFRAME", 0x00000008#32, 0xFFFFFFFF#32⟩, ⟨"DECAY", 0x00000009#32, 0xFFFFFFFF#32⟩,
    ⟨"VIEW", 0x0000000A#32, 0xFFFFFFFF#32⟩, ⟨"APPLYCFG", 0x0000000B#32, 0xFFFFFEFF#32⟩]
  ∧ ∀ w : Word,
    (∀ i, decode w = .ok i → ∃ row ∈ opcodeRows, row.mnemonic = mnemonic i ∧ w &&& row.mask = row.pattern)
    ∧ (∀ row ∈ opcodeRows, w &&& row.mask = row.pattern → ∃ i, decode w = .ok i ∧ mnemonic i = row.mnemonic)
    ∧ (∀ r₁ ∈ opcodeRows, ∀ r₂ ∈ opcodeRows,
        w &&& r₁.mask = r₁.pattern → w &&& r₂.mask = r₂.pattern → r₁ = r₂)

/-- Words written out from the encoding of R61 to R63 decode to the command they stand for, and two illegal words of
R64 are rejected. That they are rejected as `.immediate` and `.opcode` is the model's choice of reason names (log 12):
the spec only says that they are illegal. -/
def Obligations.SampleWordsDecode : Prop :=
  decode 0x00001E01#32 = .ok (.classify 30#16)
    ∧ decode 0x00FFFF01#32 = .ok (.classify 65535#16)
    ∧ decode 0x00000006#32 = .ok .decode
    ∧ decode 0x00000008#32 = .ok .onframe
    ∧ decode 0x0000010B#32 = .ok (.applycfg 1#16)
    ∧ decode 0x00000106#32 = .error .immediate
    ∧ decode 0x00000007#32 = .error .opcode

/-! ## The port and the step -/

/-- One step takes the next port access: a read goes to the read function, a write of CMD issues the command, any
other write goes to the write function, a reset resets; with none pending the block stays as it is. That the accesses
stand in `State.port`, that a read's value is put in `State.readData`, and that the step with nothing pending answers
the same state, is the model's own (log 1, log 2, log 5, log 13). -/
def Obligations.StepTakesNextAccess : Prop :=
  ∀ (s : State) (rest : List PortEvent),
    (∀ a, s.port = .read a :: rest → step s = .next { s with port := rest, readData := memRead s a })
    ∧ (∀ w, s.port = .write 0#9 w :: rest → step s = issue w { s with port := rest })
    ∧ (∀ a v, a ≠ 0#9 → s.port = .write a v :: rest → step s = .next (memWrite { s with port := rest } a v))
    ∧ (s.port = .reset :: rest →
        step s = .next { State.reset with port := rest, readData := s.readData, resets := s.resets + 1 })
    ∧ (s.port = [] → step s = .next s)

/-- R60: a write of a legal word to CMD runs that command at once, LASTOPC written first; all the step adds around
the command is taking the access from the port and LASTOPC (the port as a list is the model's own, log 1). -/
def Obligations.StepRunsDecodedCommand : Prop :=
  ∀ (s : State) (w : Word) (rest : List PortEvent) (i : Instr),
    s.port = .write 0#9 w :: rest → decode w = .ok i →
    WellFormed i ∧ step s = exec i { s with port := rest, lastOpc := w.extractLsb' 0 8 }

/-- R64: an illegal word leaves LASTOPC, ILLEGAL_CMD and CMDERR and changes nothing else; the illegal words are the
ones R64 lists, every other word is a command. -/
def Obligations.IllegalWordOnlyReports : Prop :=
  ∀ w : Word,
    (IllegalWord w → ∀ s : State,
      issue w s = .next { s with lastOpc := w.extractLsb' 0 8, result := .illegalCmd, cmdErr := true })
    ∧ (¬ IllegalWord w → ∃ i, decode w = .ok i)

/-- R41: a read returns the register's implemented bits, zero in every other bit, and 0 at CMD and at every offset the
map does not list; a read changes no state of the block (`port` and `readData` are the host's side). -/
def Obligations.ReadReturnsImplementedBits : Prop :=
  ∀ (s : State) (a : WordIndex),
    (regAt a = none ∨ regAt a = some .cmd → memRead s a = 0#32)
    ∧ (∀ r, regAt a = some r → memRead s a = readReg s r ∧ readReg s r &&& ~~~ r.implemented = 0#32)
    ∧ ∀ rest, s.port = .read a :: rest →
        ∃ t, step s = .next t ∧ t = { s with port := t.port, readData := t.readData }

/-- R42: a write of CMD executes the command the value encodes; a write to a read-write register stores the
implemented bits of the value and drops the others; a write to any other offset does nothing. Clause 1 rests on the
port list, the model's choice (log 1). The other clauses are about `memWrite`, which the step calls for every index but
that of CMD (0). -/
def Obligations.WriteStoresImplementedBits : Prop :=
  ∀ (s : State) (a : WordIndex) (v : Word),
    (∀ rest, s.port = .write 0#9 v :: rest → step s = issue v { s with port := rest })
    ∧ (∀ r, regAt a = some r → r.access = .readWrite → memRead (memWrite s a v) a = v &&& r.implemented)
    ∧ (a ≠ 0#9 → (∀ r, regAt a = some r → r.access ≠ .readWrite) → memWrite s a v = s)
    ∧ (∀ b, b ≠ a → memRead (memWrite s a v) b = memRead s b)
    ∧ memWrite s a v = { s with
        count := (memWrite s a v).count, startLevel := (memWrite s a v).startLevel
        pulse := (memWrite s a v).pulse, start := (memWrite s a v).start
        argId := (memWrite s a v).argId, argPressure := (memWrite s a v).argPressure
        argTemp := (memWrite s a v).argTemp, argNow := (memWrite s a v).argNow
        cfgId := (memWrite s a v).cfgId }

/-- The map of R43 names each register once: its word index is its byte offset over 4, and leads back to it. -/
def Obligations.AddressMapRoundTrip : Prop :=
  (∀ r : Reg, 4 * r.index.toNat = r.offset ∧ regAt r.index = some r)
    ∧ ∀ (a : WordIndex) (r : Reg), regAt a = some r → r.index = a

/-- R44: exactly the offsets it lists are reserved; they read 0 and ignore writes, and so do reserved bits inside a
mapped register. -/
def Obligations.ReservedReadsZeroIgnoresWrites : Prop :=
  (∀ a : WordIndex, regAt a = none ↔
    4 * a.toNat = 0x03C ∨ 4 * a.toNat = 0x078 ∨ 4 * a.toNat = 0x07C
      ∨ (0x08C ≤ 4 * a.toNat ∧ 4 * a.toNat ≤ 0x09C) ∨ (0x0BC ≤ 4 * a.toNat ∧ 4 * a.toNat ≤ 0x0FC)
      ∨ (∃ i < 12, 4 * a.toNat = 0x100 + 0x20 * i + 0x18 ∨ 4 * a.toNat = 0x100 + 0x20 * i + 0x1C)
      ∨ (0x280 ≤ 4 * a.toNat ∧ 4 * a.toNat ≤ 0x3FC) ∨ 4 * a.toNat = 0x7FC)
    ∧ (∀ (s : State) (a : WordIndex) (v : Word), regAt a = none → memRead s a = 0#32 ∧ memWrite s a v = s)
    ∧ (∀ (s : State) (r : Reg) (v : Word),
        readReg s r &&& ~~~ r.implemented = 0#32 ∧ writeReg s r v = writeReg s r (v &&& r.implemented))

/-- R18: raw bit `i` below BITLEN is bit `31 - (i mod 32)` of BITS[i div 32]; every other window bit reads 0. -/
def Obligations.BitsWindowReadsBitbuf : Prop :=
  ∀ (s : State) (j : Fin 7) (p : Nat), p < 32 →
    (memRead s (Reg.bits j).index).getLsbD (31 - p)
      = (decide (32 * j.val + p < 200) && s.bitBuf.getD (32 * j.val + p) false)

/-- R19: byte `j` below BYTELEN is the `j mod 4`-th most significant byte of BYTES[j div 4]; every other byte
position of the window reads 0. -/
def Obligations.BytesWindowReadsBytebuf : Prop :=
  ∀ (s : State) (j : Fin 3) (p : Nat), p < 4 →
    (memRead s (Reg.bytes j).index).extractLsb' (24 - 8 * p) 8
      = if 4 * j.val + p < 10 then s.byteBuf.getD (4 * j.val + p) 0#8 else 0#8

/-- R14 and the code numbers of R135: the fields of STATUS, reserved bits zero. -/
def Obligations.StatusRegisterFields : Prop :=
  ∀ s : State,
    (memRead s Reg.status.index).extractLsb' 0 4
        = (match s.result with
           | .ok => 0#4
           | .noPreamble => 1#4
           | .checksumFail => 2#4
           | .bitOverflow => 3#4
           | .byteOverflow => 4#4
           | .zeroId => 5#4
           | .illegalCmd => 15#4)
    ∧ (memRead s Reg.status.index).extractLsb' 4 4 = 0#4
    ∧ (memRead s Reg.status.index).extractLsb' 8 8 = s.lastOpc
    ∧ (memRead s Reg.status.index).getLsbD 16 = s.ovfBit
    ∧ (memRead s Reg.status.index).getLsbD 17 = s.ovfByte
    ∧ (memRead s Reg.status.index).getLsbD 18 = s.cmdErr
    ∧ (memRead s Reg.status.index).extractLsb' 19 13 = 0#13

/-- R28: VIEW entry `k` is in bits 4k+3 : 4k of VIEW0 for k below 8, of VIEW1 for the rest; VIEW1[31:16] reads 0. -/
def Obligations.ViewRegistersPackEntries : Prop :=
  ∀ s : State,
    (∀ k : Fin 8, (memRead s (Reg.view 0).index).extractLsb' (4 * k.val) 4 = s.view[k.val])
    ∧ (∀ k : Fin 4, (memRead s (Reg.view 1).index).extractLsb' (4 * k.val) 4 = s.view[8 + k.val])
    ∧ (memRead s (Reg.view 1).index).extractLsb' 16 16 = 0#16

/-- R21 and R45: FRAME0 and FRAME1 hold FRAME[0..7] and FRAME2 FRAME[8], the first byte most significant; FRAME2[23:0]
reads 0. -/
def Obligations.FrameRegistersPackBytes : Prop :=
  ∀ s : State,
    (∀ (j : Fin 2) (p : Fin 4),
      (memRead s (Reg.frame (j.castLE (by decide))).index).extractLsb' (24 - 8 * p.val) 8
        = s.frame[4 * j.val + p.val])
    ∧ (memRead s (Reg.frame 2).index).extractLsb' 24 8 = s.frame[8]
    ∧ (memRead s (Reg.frame 2).index).extractLsb' 0 24 = 0#24

/-- R29: SLOT in TBLRES[3:0], KIND in [5:4] as 0 to 3, EVICT in [6], the rest 0. -/
def Obligations.TblresRegisterFields : Prop :=
  ∀ s : State,
    (memRead s Reg.tblRes.index).extractLsb' 0 4 = s.tblRes.slot
    ∧ (memRead s Reg.tblRes.index).extractLsb' 4 2
        = (match s.tblRes.kind with
           | .nothing => 0#2
           | .configured => 1#2
           | .extra => 2#2
           | .placed => 3#2)
    ∧ (memRead s Reg.tblRes.index).getLsbD 6 = s.tblRes.evict
    ∧ (memRead s Reg.tblRes.index).extractLsb' 7 25 = 0#25

/-- R16, R18, R19, R20, R21, R22, R23, R24, R25 and R17: what the host reads from the registers that hold one value,
and from one entry of PULSE. -/
def Obligations.PlainRegistersReadTheirValue : Prop :=
  ∀ s : State,
    memRead s Reg.count.index = s.count.zeroExtend 32
    ∧ memRead s Reg.startLevel.index = (if s.startLevel then 1#32 else 0#32)
    ∧ memRead s Reg.bitLen.index = (BitVec.ofNat 8 s.bitBuf.length).zeroExtend 32
    ∧ memRead s Reg.start.index = s.start.zeroExtend 32
    ∧ memRead s Reg.found.index = (if s.found then 1#32 else 0#32)
    ∧ memRead s Reg.byteLen.index = (BitVec.ofNat 4 s.byteBuf.length).zeroExtend 32
    ∧ memRead s Reg.cls.index
        = (match s.cls with
           | .invalid => 0#32
           | .short => 1#32
           | .long => 2#32)
    ∧ memRead s Reg.csumOk.index = (if s.csumOk then 1#32 else 0#32)
    ∧ memRead s Reg.frameValid.index = (if s.frameValid then 1#32 else 0#32)
    ∧ memRead s Reg.statMaxTimings.index = s.statMaxTimings
    ∧ memRead s Reg.statPreamble.index = s.statPreamble
    ∧ memRead s Reg.statCsumOk.index = s.statCsumOk
    ∧ memRead s Reg.statCsumFail.index = s.statCsumFail
    ∧ memRead s Reg.argId.index = s.argId
    ∧ memRead s Reg.argPressure.index = s.argPressure
    ∧ memRead s Reg.argTemp.index = s.argTemp
    ∧ memRead s Reg.argNow.index = s.argNow
    ∧ (∀ j : Fin 4, memRead s (Reg.cfgId j).index = s.cfgId[j])
    ∧ (∀ i : Fin 12,
        memRead s (Reg.slot i .id).index = s.slots[i].id
        ∧ memRead s (Reg.slot i .pressure).index = s.slots[i].pressure
        ∧ memRead s (Reg.slot i .temp).index = s.slots[i].temp
        ∧ memRead s (Reg.slot i .score).index = s.slots[i].score.zeroExtend 32
        ∧ memRead s (Reg.slot i .lastSeen).index = s.slots[i].lastSeen)
    ∧ ∀ k : Fin 255, memRead s (Reg.pulse k).index = (s.pulseAt k.val).zeroExtend 32

/-- R26: what SLOT[i].STATE reads. -/
def Obligations.SlotStateReadsDerivedState : Prop :=
  ∀ (s : State) (i : Fin 12),
    memRead s (Reg.slot i .state).index
      = if s.slots[i].id = 0#32 then 0#32
        else if 4 ≤ i.val then 3#32
        else if s.slots[i].score = 0#8 then 1#32
        else 2#32

/-- R30: after reset every piece of the block's state is zero or empty, PULSE apart, so that every register but
PULSE reads 0; both for the state after power-on and for a reset event at any later time. -/
def Obligations.ResetClearsTheBlock : Prop :=
  ∀ s t : State, (t = State.reset ∨ t = s.takeReset) →
    t.result = .ok ∧ t.lastOpc = 0#8 ∧ t.ovfBit = false ∧ t.ovfByte = false ∧ t.cmdErr = false
    ∧ t.count = 0#8 ∧ t.startLevel = false ∧ t.bitBuf = [] ∧ t.byteBuf = []
    ∧ t.start = 0#8 ∧ t.found = false ∧ t.cls = .invalid ∧ t.csumOk = false
    ∧ (∀ j : Fin 9, t.frame[j] = 0#8) ∧ t.frameValid = false
    ∧ t.statMaxTimings = 0#32 ∧ t.statPreamble = 0#32 ∧ t.statCsumOk = 0#32 ∧ t.statCsumFail = 0#32
    ∧ t.argId = 0#32 ∧ t.argPressure = 0#32 ∧ t.argTemp = 0#32 ∧ t.argNow = 0#32
    ∧ (∀ j : Fin 4, t.cfgId[j] = 0#32)
    ∧ (∀ i : Fin 12, t.slots[i] = ⟨0#32, 0#32, 0#32, 0#8, 0#32⟩)
    ∧ (∀ k : Fin 12, t.view[k] = 0#4) ∧ t.tblRes = ⟨0#4, .nothing, false⟩
    ∧ (∀ a : WordIndex, a.toNat < 256 ∨ a.toNat = 511 → memRead t a = 0#32)

/-- R151, an inference the spec marks as its own ("[derived: from 10_state.md rule R30 and the command rules]"): the
state each command leaves when it is the first after reset (LASTOPC is written by the issue, not by the
command). -/
def Obligations.FirstCommandAfterReset : Prop :=
  (∀ d, exec (.classify d) State.reset = .next { State.reset with cls := classify d, result := .ok })
  ∧ exec .bitdec State.reset = .next State.reset
  ∧ exec .findpre State.reset = .next { State.reset with result := .noPreamble }
  ∧ exec .mandec State.reset = .next State.reset
  ∧ exec .csum State.reset = .next { State.reset with result := .checksumFail }
  ∧ exec .decode State.reset = .next { State.reset with result := .noPreamble }
  ∧ exec .onframe State.reset = .next { State.reset with result := .zeroId }
  ∧ exec .decay State.reset = .next State.reset
  ∧ exec .view State.reset = .next { State.reset with view := #v[0, 1, 2, 3, 4, 5, 6, 7, 8, 9, 10, 11] }
  ∧ ∀ imm, exec (.applycfg imm) State.reset = .next State.reset

/-- R137: no input whatever drives the block into a state from which commands stop working: every step and every
command answers a next state. -/
def Obligations.EveryStepAnswersNextState : Prop :=
  ∀ s : State, (∃ t, step s = .next t) ∧ ∀ i : Instr, ∃ t, exec i s = .next t

/-- R17: an entry of PULSE stays as it is, written or not, until the host writes it or the block is reset; no
command writes PULSE. -/
def Obligations.PulseEntryKeepsItsValue : Prop :=
  ∀ (s t : State) (k : Fin 255), step s = .next t → noResetNext s →
    (∀ v rest, s.port ≠ .write (Reg.pulse k).index v :: rest) → t.pulseAt k.val = s.pulseAt k.val

/-! ## Pulse classifier and bit recovery -/

/-- R80 and R81: CLASS by the thresholds 20 and 80, read by the host as 0, 1 or 2, always OK, nothing else written. -/
def Obligations.ClassifyByThresholds : Prop :=
  ∀ (d : Duration) (s : State), ∃ t,
    exec (.classify d) s = .next t
    ∧ t = { s with
        cls := if d.toNat < 20 then .invalid else if d.toNat < 80 then .short else .long
        result := .ok }
    ∧ memRead t Reg.cls.index = if d.toNat < 20 then 0#32 else if d.toNat < 80 then 1#32 else 2#32

/-- R84 (a), (b), (c), an inference the spec marks as its own ("[derived: from rules R80 and R82]"): the bits kept are
the first 200 of the capture's raw bits, and overflow is reported exactly when there are more. -/
def Obligations.BitRecoveryClosedForm : Prop :=
  ∀ (pulses : List Duration) (level : Bool),
    bitdec pulses level = ((rawBits pulses level).take 200, decide (200 < (rawBits pulses level).length))

/-- R84 (d), an inference the spec marks as its own: every bit sequence that fits BITBUF is the output of a capture of
no more pulses than it has bits. -/
def Obligations.EveryBitSequenceHasACapture : Prop :=
  ∀ bits : List Bool, bits.length ≤ 200 →
    ∃ (pulses : List Duration) (level : Bool), pulses.length ≤ bits.length ∧ bitdec pulses level = (bits, false)

/-- R84 (e) and (f), an inference the spec marks as its own: inverting the starting level inverts every bit and
changes nothing else; without Invalid pulses no three consecutive bits are equal. -/
def Obligations.BitRecoveryLevelProperties : Prop :=
  ∀ (pulses : List Duration) (level : Bool),
    bitdec pulses (!level) = ((bitdec pulses level).1.map (!·), (bitdec pulses level).2)
    ∧ ((∀ d ∈ pulses, 20 ≤ d.toNat) → ∀ (k : Nat) (b : Bool),
        ¬ ((bitdec pulses level).1[k]? = some b ∧ (bitdec pulses level).1[k + 1]? = some b
          ∧ (bitdec pulses level).1[k + 2]? = some b))

/-- R83: BITDEC keeps the first 200 raw bits of PULSE[0..COUNT), ends BIT_OVERFLOW with OVF_BIT set exactly when
there are more than 200, and writes nothing else. -/
def Obligations.BitdecResult : Prop :=
  ∀ s : State,
    exec .bitdec s =
      let raw := rawBits ((List.range s.count.toNat).map s.pulseAt) s.startLevel
      .next { s with
        bitBuf := raw.take 200
        result := if 200 < raw.length then .bitOverflow else .ok
        ovfBit := s.ovfBit || decide (200 < raw.length) }

/-! ## Preamble synchronizer -/

/-- R90: `findpre` answers the end of the first preamble, and nothing when there is none. -/
def Obligations.FindpreFirstOccurrence : Prop :=
  ∀ bits : List Bool,
    (∀ start, findpre bits = some start ↔
      ∃ c, start = c + 16 ∧ c + 16 ≤ bits.length ∧ PreambleAt bits c ∧ ∀ c' < c, ¬ PreambleAt bits c')
    ∧ (findpre bits = none ↔ ∀ c, ¬ PreambleAt bits c)

/-- R91: the two-counter machine of the document and the search of R90 return the same value on every input, an
inference the spec marks as its own ("[derived: from rule R90]"). -/
def Obligations.SearchMachineAgreesWithFindpre : Prop :=
  ∀ (bits : List Bool) (fuel : Nat), 16 * (bits.length + 1) ≤ fuel → searchMachine bits fuel 0 0 = findpre bits

/-- R92: FINDPRE leaves FOUND = 1 and START = the end of the first preamble, or FOUND = 0, START = 0 and
NO_PREAMBLE; no sticky flag and nothing else moves. -/
def Obligations.FindpreResult : Prop :=
  ∀ s : State,
    (∀ c, PreambleAt s.bitBuf c → (∀ c' < c, ¬ PreambleAt s.bitBuf c') →
      exec .findpre s = .next { s with found := true, start := BitVec.ofNat 8 (c + 16), result := .ok })
    ∧ ((∀ c, ¬ PreambleAt s.bitBuf c) →
      exec .findpre s = .next { s with found := false, start := 0#8, result := .noPreamble })

/-! ## Manchester decoder -/

/-- R96, an inference the spec marks as its own ("[derived: from rule R95]"): how many bytes come out, when the buffer
overflows, and each bit of each byte from its raw pair. -/
def Obligations.MandecClosedForm : Prop :=
  ∀ (bits : List Bool) (start : Nat),
    (mandec bits start).1.length = min ((bits.length - start) / 16) 10
    ∧ (mandec bits start).2 = decide (11 ≤ (bits.length - start) / 16)
    ∧ ∀ m < min ((bits.length - start) / 16) 10, ∀ k < 8,
        ((mandec bits start).1.getD m 0#8).getLsbD (7 - k)
          = (!(bits.getD (start + 16 * m + 2 * k) false) || bits.getD (start + 16 * m + 2 * k + 1) false)

/-- R98, an inference the spec marks as its own ("[derived: from rule R96]"): `mandec` undoes the Manchester encoding
of any byte sequence of at most 10 bytes. -/
def Obligations.MandecInvertsEncoding : Prop :=
  ∀ bytes : List Byte, bytes.length ≤ 10 → mandec (menc bytes) 0 = (bytes, false)

/-- R97: MANDEC decodes from START as it stands, ends BYTE_OVERFLOW with OVF_BYTE set exactly when 176 or more raw
bits follow START, and writes nothing else; each byte is the one R95 builds (`mandec`). -/
def Obligations.MandecResult : Prop :=
  ∀ s : State,
    exec .mandec s = .next { s with
      byteBuf := (mandec s.bitBuf s.start.toNat).1
      result := if s.start.toNat + 176 ≤ s.bitBuf.length then .byteOverflow else .ok
      ovfByte := s.ovfByte || decide (s.start.toNat + 176 ≤ s.bitBuf.length) }

/-! ## Checksum validator -/

/-- R100: nine bytes or more are valid exactly when byte 8 is the XOR of bytes 0 to 7; fewer are never valid. -/
def Obligations.ChecksumIsXorOfEight : Prop :=
  (∀ bytes : List Byte, bytes.length < 9 → csumValid bytes = false)
    ∧ ∀ (b0 b1 b2 b3 b4 b5 b6 b7 c : Byte) (tail : List Byte),
        csumValid (b0 :: b1 :: b2 :: b3 :: b4 :: b5 :: b6 :: b7 :: c :: tail)
          = decide (b0 ^^^ b1 ^^^ b2 ^^^ b3 ^^^ b4 ^^^ b5 ^^^ b6 ^^^ b7 = c)

/-- R102 (c), (d), inferences the spec marks as its own ("[derived: from rule R100]"): exactly one value of byte 8 is
valid for given bytes 0 to 7, and flipping any single bit of a valid nine-byte sequence makes it invalid. -/
def Obligations.ChecksumRejectsSingleBitFlips : Prop :=
  (∀ payload : List Byte, payload.length = 8 → ∃! c : Byte, csumValid (payload ++ [c]) = true)
    ∧ ∀ bytes : List Byte, bytes.length = 9 → csumValid bytes = true →
        ∀ j < 9, ∀ k < 8, csumValid (bytes.set j (bytes.getD j 0#8 ^^^ BitVec.twoPow 8 k)) = false

/-- R101: CSUM leaves CSUMOK and OK or CHECKSUM_FAIL by the test of R100 on BYTEBUF; nothing else moves. -/
def Obligations.CsumResult : Prop :=
  ∀ s : State,
    (csumValid s.byteBuf = true → exec .csum s = .next { s with csumOk := true, result := .ok })
    ∧ (csumValid s.byteBuf = false → exec .csum s = .next { s with csumOk := false, result := .checksumFail })

/-! ## Frame decode -/

/-- R105: DECODE on every capture, by the first exit it takes, in terms of the raw bits of the capture, the first
preamble in them, the Manchester stage and the checksum. -/
def Obligations.DecodeResultByFirstExit : Prop :=
  ∀ s : State,
    exec .decode s =
      let raw := rawBits ((List.range s.count.toNat).map s.pulseAt) s.startLevel
      let cleared : State := { s with
        statMaxTimings := BitVec.ofNat 32 (max s.statMaxTimings.toNat s.count.toNat)
        found := false, start := 0#8, byteBuf := [], csumOk := false
        frame := Vector.replicate 9 0#8, frameValid := false, bitBuf := raw.take 200 }
      if 200 < raw.length then .next { cleared with result := .bitOverflow, ovfBit := true }
      else
        match findpre raw with
        | none => .next { cleared with result := .noPreamble }
        | some start =>
          let bytes := (mandec raw start).1
          let searched : State := { cleared with
            found := true, start := BitVec.ofNat 8 start, byteBuf := bytes
            statPreamble := BitVec.ofNat 32 (min (s.statPreamble.toNat + 1) (2 ^ 32 - 1)) }
          if start + 176 ≤ raw.length then .next { searched with result := .byteOverflow, ovfByte := true }
          else if csumValid (bytes.take 9) then
            .next { searched with
              result := .ok, csumOk := true, frameValid := true
              frame := Vector.ofFn fun j : Fin 9 => bytes.getD j.val 0#8
              statCsumOk := BitVec.ofNat 32 (min (s.statCsumOk.toNat + 1) (2 ^ 32 - 1)) }
          else
            .next { searched with
              result := .checksumFail
              statCsumFail := BitVec.ofNat 32 (min (s.statCsumFail.toNat + 1) (2 ^ 32 - 1)) }

/-- R106: the counters of one DECODE, by its result. -/
def Obligations.DecodeCountersByResult : Prop :=
  ∀ s t : State, exec .decode s = .next t →
    t.statMaxTimings.toNat = max s.statMaxTimings.toNat s.count.toNat
    ∧ t.statPreamble.toNat
        = (if t.result = .ok ∨ t.result = .checksumFail ∨ t.result = .byteOverflow
           then min (s.statPreamble.toNat + 1) (2 ^ 32 - 1) else s.statPreamble.toNat)
    ∧ t.statCsumOk.toNat
        = (if t.result = .ok then min (s.statCsumOk.toNat + 1) (2 ^ 32 - 1) else s.statCsumOk.toNat)
    ∧ t.statCsumFail.toNat
        = (if t.result = .checksumFail then min (s.statCsumFail.toNat + 1) (2 ^ 32 - 1) else s.statCsumFail.toNat)
    ∧ (t.result = .ok ∨ t.result = .checksumFail ∨ t.result = .noPreamble ∨ t.result = .bitOverflow
        ∨ t.result = .byteOverflow)

/-- R110: what DECODE leaves is a function of COUNT, STARTLEVEL, PULSE[0..COUNT) and the old counters alone: not of
the staging state, not of the table, not of PULSE beyond COUNT. -/
def Obligations.DecodeDependsOnCaptureAndCounters : Prop :=
  ∀ s u t : State,
    u.count = s.count → u.startLevel = s.startLevel → (∀ k < s.count.toNat, u.pulseAt k = s.pulseAt k) →
    u.statMaxTimings = s.statMaxTimings → u.statPreamble = s.statPreamble →
    u.statCsumOk = s.statCsumOk → u.statCsumFail = s.statCsumFail →
    exec .decode s = .next t →
    exec .decode u = .next (withSticky (withDecodeResults u t)
      (u.ovfBit || t.result == .bitOverflow) (u.ovfByte || t.result == .byteOverflow) u.cmdErr)

/-- R110, Determinism, with what the spec infers for the counters ("the second of two identical decodes never raises
it"): a second DECODE of the same capture leaves the same result, frame and staging state and never
raises STAT_MAXTIMINGS. -/
def Obligations.SecondDecodeLeavesTheSame : Prop :=
  ∀ s t : State, exec .decode s = .next t →
    exec .decode t = .next { t with
      statPreamble := BitVec.ofNat 32
        (min (t.statPreamble.toNat + (if t.found then 1 else 0)) (2 ^ 32 - 1))
      statCsumOk := BitVec.ofNat 32 (min (t.statCsumOk.toNat + (if t.frameValid then 1 else 0)) (2 ^ 32 - 1))
      statCsumFail := BitVec.ofNat 32
        (min (t.statCsumFail.toNat + (if t.result = .checksumFail then 1 else 0)) (2 ^ 32 - 1)) }

/-- The exact form of R111's round trip, which the spec marks as its own inference ("[derived: from rules R105,
40_pulse_bit_recovery.md R84, 42_manchester.md R98, 43_checksum.md R102]"), with the preamble as raw bits and not
Manchester-encoded (90_conflicts C3): a capture of the run lengths of preamble, payload and checksum decodes to the
frame of that payload, whatever the rest of the state; it has at most 159 pulses. -/
def Obligations.FrameRoundTrip : Prop :=
  ∀ payload : List Byte, payload.length = 8 →
    (runClasses (frameBits payload)).length ≤ 159
    ∧ ∀ s : State, s.startLevel = true →
      ((List.range s.count.toNat).map s.pulseAt).map classify = runClasses (frameBits payload) →
      ∃ t, exec .decode s = .next t
        ∧ t.result = .ok ∧ t.found = true ∧ t.start = 16#8 ∧ t.csumOk = true ∧ t.frameValid = true
        ∧ t.bitBuf = frameBits payload
        ∧ t.byteBuf = payload ++ [xorBytes payload] ∧ t.frame.toList = payload ++ [xorBytes payload]

/-- Program 2 of 95_test_vectors, from R105: the four stage commands in a row leave the staging state of one DECODE
on the same capture, whenever that DECODE reaches the checksum. -/
def Obligations.DecodeAgreesWithStageCommands : Prop :=
  ∀ s d b f m c : State,
    exec .decode s = .next d → (d.result = .ok ∨ d.result = .checksumFail) →
    exec .bitdec s = .next b → exec .findpre b = .next f → exec .mandec f = .next m → exec .csum m = .next c →
    c.result = d.result ∧ c.bitBuf = d.bitBuf ∧ c.found = d.found ∧ c.start = d.start
      ∧ c.byteBuf = d.byteBuf ∧ c.csumOk = d.csumOk

/-! ## Sensor table -/

/-- R116 and R117: ONFRAME in its four cases: id 0, a configured match (the least index), an extra match (the least
index), a new id, which overwrites the victim. Exactly one slot is written when the result is OK. -/
def Obligations.OnframeResult : Prop :=
  ∀ s : State,
    (s.argId = 0#32 → exec .onframe s = .next { s with tblRes := ⟨0#4, .nothing, false⟩, result := .zeroId })
    ∧ (s.argId ≠ 0#32 → ∀ i : Fin 12,
        (s.slots[i].id = s.argId → (∀ j : Fin 12, j < i → s.slots[j].id ≠ s.argId) →
          exec .onframe s = .next { s with
            slots := s.slots.set i.val
              ⟨s.slots[i].id, s.argPressure, s.argTemp, BitVec.ofNat 8 (min (s.slots[i].score.toNat + 10) 250),
                s.argNow⟩
            tblRes := ⟨BitVec.ofNat 4 i.val, if i.val < 4 then .configured else .extra, false⟩
            result := .ok }))
    ∧ (s.argId ≠ 0#32 → (∀ j : Fin 12, s.slots[j].id ≠ s.argId) →
        exec .onframe s = .next { s with
          slots := s.slots.set (victim s.slots).val ⟨s.argId, s.argPressure, s.argTemp, 10#8, s.argNow⟩
          tblRes := ⟨BitVec.ofNat 4 (victim s.slots).val, .placed, decide (s.slots[victim s.slots].id ≠ 0#32)⟩
          result := .ok })

/-- R118: the victim is the extra slot with the least score, then the oldest LASTSEEN, then an empty slot, then the
lowest index; under the table invariants an empty extra slot is taken whenever there is one, lowest index first. -/
def Obligations.VictimHasLeastKey : Prop :=
  ∀ s : State,
    4 ≤ (victim s.slots).val
    ∧ (∀ i : Fin 12, 4 ≤ i.val → i ≠ victim s.slots →
        let v := s.slots[victim s.slots]
        let r := s.slots[i]
        let live := fun x : Slot => if x.id = 0#32 then 0 else 1
        v.score.toNat < r.score.toNat
          ∨ (v.score = r.score ∧ (v.lastSeen.toNat < r.lastSeen.toNat
            ∨ (v.lastSeen = r.lastSeen ∧ (live v < live r ∨ (live v = live r ∧ victim s.slots < i))))))
    ∧ (TableInv s → ∀ i : Fin 12, 4 ≤ i.val → s.slots[i].id = 0#32 →
        s.slots[victim s.slots].id = 0#32 ∧ victim s.slots ≤ i)

/-- R120: DECAY takes 10 from every score, never below 0; a configured slot keeps all its other fields, an extra slot
whose score reaches 0 is cleared; nothing but the slots is written. -/
def Obligations.DecayResult : Prop :=
  ∀ s : State, ∃ slots : Vector Slot 12,
    exec .decay s = .next { s with slots := slots, result := .ok }
    ∧ ∀ i : Fin 12, slots[i] =
        if 4 ≤ i.val ∧ s.slots[i].score.toNat ≤ 10 then ⟨0#32, 0#32, 0#32, 0#8, 0#32⟩
        else { s.slots[i] with score := BitVec.ofNat 8 (s.slots[i].score.toNat - 10) }

/-- R125: VIEW lists slots 0 to 3 in order, then every extra slot once, higher score first and equal scores in
ascending index; no slot changes. -/
def Obligations.ViewResult : Prop :=
  ∀ s : State, ∃ order : Fin 12 → Fin 12,
    (∃ v : Vector (BitVec 4) 12, exec .view s = .next { s with view := v, result := .ok }
      ∧ ∀ k : Fin 12, v[k].toNat = (order k).val)
    ∧ (∀ k : Fin 12, k.val < 4 → order k = k)
    ∧ (∀ i : Fin 12, 4 ≤ i.val → ∃ k : Fin 12, 4 ≤ k.val ∧ order k = i)
    ∧ (∀ k l : Fin 12, 4 ≤ k.val → k < l →
        s.slots[order l].score.toNat < s.slots[order k].score.toNat
          ∨ (s.slots[order l].score = s.slots[order k].score ∧ order k < order l))

/-- R131: APPLYCFG overwrites the four configured slots with CFG_ID, or with id 0 when `valid` is 0, every other
field 0; slots 4 to 11 and everything else stay. -/
def Obligations.ApplycfgResult : Prop :=
  ∀ (imm : BitVec 16) (s : State), ∃ slots : Vector Slot 12,
    exec (.applycfg imm) s = .next { s with slots := slots, result := .ok }
    ∧ (∀ j : Fin 4, slots[j.val] = ⟨if imm.getLsbD 0 then s.cfgId[j] else 0#32, 0#32, 0#32, 0#8, 0#32⟩)
    ∧ (∀ i : Fin 12, 4 ≤ i.val → slots[i] = s.slots[i])

/-- R133, an inference the spec marks as its own ("[derived: from rules R117 and R120]"): ONFRAME first and DECAY
after, on an id an extra slot holds with a score of at least 1: the id keeps its slot, at score min(s + 10, 250) - 10;
an id new to the table is cleared again by that DECAY. -/
def Obligations.FrameBeforeDecay : Prop :=
  ∀ s t u : State, exec .onframe s = .next t → exec .decay t = .next u → s.argId ≠ 0#32 →
    (∀ i : Fin 12, 4 ≤ i.val → s.slots[i].id = s.argId → (∀ j : Fin 12, j < i → s.slots[j].id ≠ s.argId) →
      1 ≤ s.slots[i].score.toNat →
      u.slots[i].id = s.argId ∧ u.slots[i].score.toNat = min (s.slots[i].score.toNat + 10) 250 - 10)
    ∧ ((∀ j : Fin 12, s.slots[j].id ≠ s.argId) → ∀ i : Fin 12, u.slots[i].id ≠ s.argId)

/-! ## Rules over all commands -/

/-- R67: each command writes only what its row lists, and RESULT; it leaves only the result codes its row lists. The
one slot ONFRAME may write is the configured match, else the extra match, else the victim, and none for id 0. -/
def Obligations.CommandsWriteOnlyTheirRow : Prop :=
  ∀ s t : State,
    (∀ d, exec (.classify d) s = .next t → t = { s with cls := t.cls, result := .ok })
    ∧ (exec .bitdec s = .next t →
        t = { s with bitBuf := t.bitBuf, ovfBit := t.ovfBit, result := t.result }
        ∧ (t.result = .ok ∨ t.result = .bitOverflow))
    ∧ (exec .findpre s = .next t →
        t = { s with found := t.found, start := t.start, result := t.result }
        ∧ (t.result = .ok ∨ t.result = .noPreamble))
    ∧ (exec .mandec s = .next t →
        t = { s with byteBuf := t.byteBuf, ovfByte := t.ovfByte, result := t.result }
        ∧ (t.result = .ok ∨ t.result = .byteOverflow))
    ∧ (exec .csum s = .next t →
        t = { s with csumOk := t.csumOk, result := t.result } ∧ (t.result = .ok ∨ t.result = .checksumFail))
    ∧ (exec .decode s = .next t →
        t = withSticky (withDecodeResults s t) t.ovfBit t.ovfByte s.cmdErr
        ∧ (t.result = .ok ∨ t.result = .noPreamble ∨ t.result = .checksumFail ∨ t.result = .bitOverflow
          ∨ t.result = .byteOverflow))
    ∧ (exec .onframe s = .next t →
        t = { s with slots := t.slots, tblRes := t.tblRes, result := t.result }
        ∧ (s.argId = 0#32 → t.result = .zeroId ∧ t.slots = s.slots)
        ∧ (s.argId ≠ 0#32 → t.result = .ok ∧
          ∀ j : Fin 12,
            j ≠ ((matchIn s.slots s.argId configuredSlots).or (matchIn s.slots s.argId extraSlots)).getD
              (victim s.slots) →
            t.slots[j] = s.slots[j]))
    ∧ (exec .decay s = .next t → t = { s with slots := t.slots, result := .ok })
    ∧ (exec .view s = .next t → t = { s with view := t.view, result := .ok })
    ∧ (∀ imm, exec (.applycfg imm) s = .next t →
        t = { s with slots := t.slots, result := .ok } ∧ ∀ i : Fin 12, 4 ≤ i.val → t.slots[i] = s.slots[i])

/-- R3, an inference the spec marks as its own ("[derived: from the read and write sets in 30_encoding.md rule R67]"):
no command of the decode side reads or writes the table side, and none of the table side the decode side: whatever
stands on the other side, the command does the same and leaves it as it stood. -/
def Obligations.SidesDoNotReadEachOther : Prop :=
  ∀ (i : Instr) (s t u : State), exec i s = .next t →
    (onDecodeSide i = true → exec i (withTableSide s u) = .next (withTableSide t u))
    ∧ (onDecodeSide i = false → exec i (withDecodeSide s u) = .next (withDecodeSide t u))

/-- R131, "APPLYCFG is the only command that writes a configured slot's ID" (and the inferences of R27 (f) and R132):
a configured slot's id changes only in APPLYCFG or at reset. -/
def Obligations.ConfiguredIdsChangeOnlyByApplycfg : Prop :=
  ∀ s t : State, step s = .next t → noResetNext s →
    (∀ w rest imm, s.port = .write 0#9 w :: rest → decode w ≠ .ok (.applycfg imm)) →
    ∀ i : Fin 12, i.val < 4 → t.slots[i].id = s.slots[i].id

/-- R22: the four counters never decrease, and only DECODE changes them. -/
def Obligations.CountersNeverDecrease : Prop :=
  ∀ s t : State, step s = .next t → noResetNext s →
    (s.statMaxTimings.toNat ≤ t.statMaxTimings.toNat ∧ s.statPreamble.toNat ≤ t.statPreamble.toNat
      ∧ s.statCsumOk.toNat ≤ t.statCsumOk.toNat ∧ s.statCsumFail.toNat ≤ t.statCsumFail.toNat)
    ∧ ((∀ rest, s.port ≠ .write 0#9 0x00000006#32 :: rest) →
        t.statMaxTimings = s.statMaxTimings ∧ t.statPreamble = s.statPreamble
          ∧ t.statCsumOk = s.statCsumOk ∧ t.statCsumFail = s.statCsumFail)

/-- R138: a sticky flag stays set until reset, is set by the command whose result code it stands for, and changes the
behaviour of nothing. -/
def Obligations.StickyFlagsOnlyAccumulate : Prop :=
  (∀ s t : State, step s = .next t → noResetNext s →
    (s.ovfBit = true → t.ovfBit = true) ∧ (s.ovfByte = true → t.ovfByte = true)
      ∧ (s.cmdErr = true → t.cmdErr = true))
    ∧ (∀ (i : Instr) (s t : State) (bit byte err : Bool), exec i s = .next t →
        exec i (withSticky s bit byte err) = .next (withSticky t
          (bit || t.result == .bitOverflow) (byte || t.result == .byteOverflow) err))

/-! ## Invariants -/

/-- R27 (a) to (e), an inference the spec marks as its own ("They hold after reset and every command keeps them"):
every step keeps the table invariants. -/
def Obligations.StepKeepsTableInvariants : Prop :=
  ∀ s t : State, TableInv s → step s = .next t → TableInv t

/-- R18 and R19: every step keeps the buffers within their capacities; and the pulse memory in its canonical form,
which is the model's choice (log 4). -/
def Obligations.StepKeepsBufferBounds : Prop :=
  ∀ s t : State, BufferInv s → step s = .next t → BufferInv t

/-- R21, by inference (DECODE alone writes FRAME, with a validated frame or zeros): every step keeps FRAME all zero or
with a right checksum. -/
def Obligations.StepKeepsFrameChecked : Prop :=
  ∀ s t : State, FrameInv s → step s = .next t → FrameInv t

/-- R22, "STAT_MAXTIMINGS can never exceed 255", and an inference from R106's own ("Hence STAT_PREAMBLE = ..."): every
step keeps the bounds of the counters. -/
def Obligations.StepKeepsCounterBounds : Prop :=
  ∀ s t : State, StatsInv s → step s = .next t → StatsInv t

/-- By inference from R13, R28, R29 and U7 (log 10): every step keeps STATUS, TBLRES and VIEW within what commands can
leave. -/
def Obligations.StepKeepsReportsInRange : Prop :=
  ∀ s t : State, ReportInv s → step s = .next t → ReportInv t

/-- R27, "They hold after reset", and the other invariants at reset. -/
def Obligations.ResetMeetsInvariants : Prop :=
  TableInv State.reset ∧ BufferInv State.reset ∧ FrameInv State.reset ∧ StatsInv State.reset ∧ ReportInv State.reset
end

