-- ==== Sys2Proof/Laws/State.lean ====
section
/-!
SUPPORT. One lemma per field per named update of State, true by rfl, so that no proof unfolds a record update.
-/

namespace Sys2Proof.Machine

section
variable (c : ResultCode) (s : State)
@[simp] theorem setResult_result : (State.setResult c s).result = c := rfl
@[simp] theorem setResult_lastOpc : (State.setResult c s).lastOpc = s.lastOpc := rfl
@[simp] theorem setResult_ovfBit : (State.setResult c s).ovfBit = s.ovfBit := rfl
@[simp] theorem setResult_ovfByte : (State.setResult c s).ovfByte = s.ovfByte := rfl
@[simp] theorem setResult_cmdErr : (State.setResult c s).cmdErr = s.cmdErr := rfl
@[simp] theorem setResult_count : (State.setResult c s).count = s.count := rfl
@[simp] theorem setResult_startLevel : (State.setResult c s).startLevel = s.startLevel := rfl
@[simp] theorem setResult_pulse : (State.setResult c s).pulse = s.pulse := rfl
@[simp] theorem setResult_bitBuf : (State.setResult c s).bitBuf = s.bitBuf := rfl
@[simp] theorem setResult_byteBuf : (State.setResult c s).byteBuf = s.byteBuf := rfl
@[simp] theorem setResult_start : (State.setResult c s).start = s.start := rfl
@[simp] theorem setResult_found : (State.setResult c s).found = s.found := rfl
@[simp] theorem setResult_cls : (State.setResult c s).cls = s.cls := rfl
@[simp] theorem setResult_csumOk : (State.setResult c s).csumOk = s.csumOk := rfl
@[simp] theorem setResult_frame : (State.setResult c s).frame = s.frame := rfl
@[simp] theorem setResult_frameValid : (State.setResult c s).frameValid = s.frameValid := rfl
@[simp] theorem setResult_statMaxTimings : (State.setResult c s).statMaxTimings = s.statMaxTimings := rfl
@[simp] theorem setResult_statPreamble : (State.setResult c s).statPreamble = s.statPreamble := rfl
@[simp] theorem setResult_statCsumOk : (State.setResult c s).statCsumOk = s.statCsumOk := rfl
@[simp] theorem setResult_statCsumFail : (State.setResult c s).statCsumFail = s.statCsumFail := rfl
@[simp] theorem setResult_argId : (State.setResult c s).argId = s.argId := rfl
@[simp] theorem setResult_argPressure : (State.setResult c s).argPressure = s.argPressure := rfl
@[simp] theorem setResult_argTemp : (State.setResult c s).argTemp = s.argTemp := rfl
@[simp] theorem setResult_argNow : (State.setResult c s).argNow = s.argNow := rfl
@[simp] theorem setResult_cfgId : (State.setResult c s).cfgId = s.cfgId := rfl
@[simp] theorem setResult_slots : (State.setResult c s).slots = s.slots := rfl
@[simp] theorem setResult_view : (State.setResult c s).view = s.view := rfl
@[simp] theorem setResult_tblRes : (State.setResult c s).tblRes = s.tblRes := rfl
@[simp] theorem setResult_port : (State.setResult c s).port = s.port := rfl
@[simp] theorem setResult_readData : (State.setResult c s).readData = s.readData := rfl
@[simp] theorem setResult_resets : (State.setResult c s).resets = s.resets := rfl
end

section
variable (b : Byte) (s : State)
@[simp] theorem setLastOpc_result : (State.setLastOpc b s).result = s.result := rfl
@[simp] theorem setLastOpc_lastOpc : (State.setLastOpc b s).lastOpc = b := rfl
@[simp] theorem setLastOpc_ovfBit : (State.setLastOpc b s).ovfBit = s.ovfBit := rfl
@[simp] theorem setLastOpc_ovfByte : (State.setLastOpc b s).ovfByte = s.ovfByte := rfl
@[simp] theorem setLastOpc_cmdErr : (State.setLastOpc b s).cmdErr = s.cmdErr := rfl
@[simp] theorem setLastOpc_count : (State.setLastOpc b s).count = s.count := rfl
@[simp] theorem setLastOpc_startLevel : (State.setLastOpc b s).startLevel = s.startLevel := rfl
@[simp] theorem setLastOpc_pulse : (State.setLastOpc b s).pulse = s.pulse := rfl
@[simp] theorem setLastOpc_bitBuf : (State.setLastOpc b s).bitBuf = s.bitBuf := rfl
@[simp] theorem setLastOpc_byteBuf : (State.setLastOpc b s).byteBuf = s.byteBuf := rfl
@[simp] theorem setLastOpc_start : (State.setLastOpc b s).start = s.start := rfl
@[simp] theorem setLastOpc_found : (State.setLastOpc b s).found = s.found := rfl
@[simp] theorem setLastOpc_cls : (State.setLastOpc b s).cls = s.cls := rfl
@[simp] theorem setLastOpc_csumOk : (State.setLastOpc b s).csumOk = s.csumOk := rfl
@[simp] theorem setLastOpc_frame : (State.setLastOpc b s).frame = s.frame := rfl
@[simp] theorem setLastOpc_frameValid : (State.setLastOpc b s).frameValid = s.frameValid := rfl
@[simp] theorem setLastOpc_statMaxTimings : (State.setLastOpc b s).statMaxTimings = s.statMaxTimings := rfl
@[simp] theorem setLastOpc_statPreamble : (State.setLastOpc b s).statPreamble = s.statPreamble := rfl
@[simp] theorem setLastOpc_statCsumOk : (State.setLastOpc b s).statCsumOk = s.statCsumOk := rfl
@[simp] theorem setLastOpc_statCsumFail : (State.setLastOpc b s).statCsumFail = s.statCsumFail := rfl
@[simp] theorem setLastOpc_argId : (State.setLastOpc b s).argId = s.argId := rfl
@[simp] theorem setLastOpc_argPressure : (State.setLastOpc b s).argPressure = s.argPressure := rfl
@[simp] theorem setLastOpc_argTemp : (State.setLastOpc b s).argTemp = s.argTemp := rfl
@[simp] theorem setLastOpc_argNow : (State.setLastOpc b s).argNow = s.argNow := rfl
@[simp] theorem setLastOpc_cfgId : (State.setLastOpc b s).cfgId = s.cfgId := rfl
@[simp] theorem setLastOpc_slots : (State.setLastOpc b s).slots = s.slots := rfl
@[simp] theorem setLastOpc_view : (State.setLastOpc b s).view = s.view := rfl
@[simp] theorem setLastOpc_tblRes : (State.setLastOpc b s).tblRes = s.tblRes := rfl
@[simp] theorem setLastOpc_port : (State.setLastOpc b s).port = s.port := rfl
@[simp] theorem setLastOpc_readData : (State.setLastOpc b s).readData = s.readData := rfl
@[simp] theorem setLastOpc_resets : (State.setLastOpc b s).resets = s.resets := rfl
end

section
variable (c : PulseClass) (s : State)
@[simp] theorem setCls_result : (State.setCls c s).result = s.result := rfl
@[simp] theorem setCls_lastOpc : (State.setCls c s).lastOpc = s.lastOpc := rfl
@[simp] theorem setCls_ovfBit : (State.setCls c s).ovfBit = s.ovfBit := rfl
@[simp] theorem setCls_ovfByte : (State.setCls c s).ovfByte = s.ovfByte := rfl
@[simp] theorem setCls_cmdErr : (State.setCls c s).cmdErr = s.cmdErr := rfl
@[simp] theorem setCls_count : (State.setCls c s).count = s.count := rfl
@[simp] theorem setCls_startLevel : (State.setCls c s).startLevel = s.startLevel := rfl
@[simp] theorem setCls_pulse : (State.setCls c s).pulse = s.pulse := rfl
@[simp] theorem setCls_bitBuf : (State.setCls c s).bitBuf = s.bitBuf := rfl
@[simp] theorem setCls_byteBuf : (State.setCls c s).byteBuf = s.byteBuf := rfl
@[simp] theorem setCls_start : (State.setCls c s).start = s.start := rfl
@[simp] theorem setCls_found : (State.setCls c s).found = s.found := rfl
@[simp] theorem setCls_cls : (State.setCls c s).cls = c := rfl
@[simp] theorem setCls_csumOk : (State.setCls c s).csumOk = s.csumOk := rfl
@[simp] theorem setCls_frame : (State.setCls c s).frame = s.frame := rfl
@[simp] theorem setCls_frameValid : (State.setCls c s).frameValid = s.frameValid := rfl
@[simp] theorem setCls_statMaxTimings : (State.setCls c s).statMaxTimings = s.statMaxTimings := rfl
@[simp] theorem setCls_statPreamble : (State.setCls c s).statPreamble = s.statPreamble := rfl
@[simp] theorem setCls_statCsumOk : (State.setCls c s).statCsumOk = s.statCsumOk := rfl
@[simp] theorem setCls_statCsumFail : (State.setCls c s).statCsumFail = s.statCsumFail := rfl
@[simp] theorem setCls_argId : (State.setCls c s).argId = s.argId := rfl
@[simp] theorem setCls_argPressure : (State.setCls c s).argPressure = s.argPressure := rfl
@[simp] theorem setCls_argTemp : (State.setCls c s).argTemp = s.argTemp := rfl
@[simp] theorem setCls_argNow : (State.setCls c s).argNow = s.argNow := rfl
@[simp] theorem setCls_cfgId : (State.setCls c s).cfgId = s.cfgId := rfl
@[simp] theorem setCls_slots : (State.setCls c s).slots = s.slots := rfl
@[simp] theorem setCls_view : (State.setCls c s).view = s.view := rfl
@[simp] theorem setCls_tblRes : (State.setCls c s).tblRes = s.tblRes := rfl
@[simp] theorem setCls_port : (State.setCls c s).port = s.port := rfl
@[simp] theorem setCls_readData : (State.setCls c s).readData = s.readData := rfl
@[simp] theorem setCls_resets : (State.setCls c s).resets = s.resets := rfl
end

section
variable (bits : List Bool) (s : State)
@[simp] theorem setBitBuf_result : (State.setBitBuf bits s).result = s.result := rfl
@[simp] theorem setBitBuf_lastOpc : (State.setBitBuf bits s).lastOpc = s.lastOpc := rfl
@[simp] theorem setBitBuf_ovfBit : (State.setBitBuf bits s).ovfBit = s.ovfBit := rfl
@[simp] theorem setBitBuf_ovfByte : (State.setBitBuf bits s).ovfByte = s.ovfByte := rfl
@[simp] theorem setBitBuf_cmdErr : (State.setBitBuf bits s).cmdErr = s.cmdErr := rfl
@[simp] theorem setBitBuf_count : (State.setBitBuf bits s).count = s.count := rfl
@[simp] theorem setBitBuf_startLevel : (State.setBitBuf bits s).startLevel = s.startLevel := rfl
@[simp] theorem setBitBuf_pulse : (State.setBitBuf bits s).pulse = s.pulse := rfl
@[simp] theorem setBitBuf_bitBuf : (State.setBitBuf bits s).bitBuf = bits := rfl
@[simp] theorem setBitBuf_byteBuf : (State.setBitBuf bits s).byteBuf = s.byteBuf := rfl
@[simp] theorem setBitBuf_start : (State.setBitBuf bits s).start = s.start := rfl
@[simp] theorem setBitBuf_found : (State.setBitBuf bits s).found = s.found := rfl
@[simp] theorem setBitBuf_cls : (State.setBitBuf bits s).cls = s.cls := rfl
@[simp] theorem setBitBuf_csumOk : (State.setBitBuf bits s).csumOk = s.csumOk := rfl
@[simp] theorem setBitBuf_frame : (State.setBitBuf bits s).frame = s.frame := rfl
@[simp] theorem setBitBuf_frameValid : (State.setBitBuf bits s).frameValid = s.frameValid := rfl
@[simp] theorem setBitBuf_statMaxTimings : (State.setBitBuf bits s).statMaxTimings = s.statMaxTimings := rfl
@[simp] theorem setBitBuf_statPreamble : (State.setBitBuf bits s).statPreamble = s.statPreamble := rfl
@[simp] theorem setBitBuf_statCsumOk : (State.setBitBuf bits s).statCsumOk = s.statCsumOk := rfl
@[simp] theorem setBitBuf_statCsumFail : (State.setBitBuf bits s).statCsumFail = s.statCsumFail := rfl
@[simp] theorem setBitBuf_argId : (State.setBitBuf bits s).argId = s.argId := rfl
@[simp] theorem setBitBuf_argPressure : (State.setBitBuf bits s).argPressure = s.argPressure := rfl
@[simp] theorem setBitBuf_argTemp : (State.setBitBuf bits s).argTemp = s.argTemp := rfl
@[simp] theorem setBitBuf_argNow : (State.setBitBuf bits s).argNow = s.argNow := rfl
@[simp] theorem setBitBuf_cfgId : (State.setBitBuf bits s).cfgId = s.cfgId := rfl
@[simp] theorem setBitBuf_slots : (State.setBitBuf bits s).slots = s.slots := rfl
@[simp] theorem setBitBuf_view : (State.setBitBuf bits s).view = s.view := rfl
@[simp] theorem setBitBuf_tblRes : (State.setBitBuf bits s).tblRes = s.tblRes := rfl
@[simp] theorem setBitBuf_port : (State.setBitBuf bits s).port = s.port := rfl
@[simp] theorem setBitBuf_readData : (State.setBitBuf bits s).readData = s.readData := rfl
@[simp] theorem setBitBuf_resets : (State.setBitBuf bits s).resets = s.resets := rfl
end

section
variable (bytes : List Byte) (s : State)
@[simp] theorem setByteBuf_result : (State.setByteBuf bytes s).result = s.result := rfl
@[simp] theorem setByteBuf_lastOpc : (State.setByteBuf bytes s).lastOpc = s.lastOpc := rfl
@[simp] theorem setByteBuf_ovfBit : (State.setByteBuf bytes s).ovfBit = s.ovfBit := rfl
@[simp] theorem setByteBuf_ovfByte : (State.setByteBuf bytes s).ovfByte = s.ovfByte := rfl
@[simp] theorem setByteBuf_cmdErr : (State.setByteBuf bytes s).cmdErr = s.cmdErr := rfl
@[simp] theorem setByteBuf_count : (State.setByteBuf bytes s).count = s.count := rfl
@[simp] theorem setByteBuf_startLevel : (State.setByteBuf bytes s).startLevel = s.startLevel := rfl
@[simp] theorem setByteBuf_pulse : (State.setByteBuf bytes s).pulse = s.pulse := rfl
@[simp] theorem setByteBuf_bitBuf : (State.setByteBuf bytes s).bitBuf = s.bitBuf := rfl
@[simp] theorem setByteBuf_byteBuf : (State.setByteBuf bytes s).byteBuf = bytes := rfl
@[simp] theorem setByteBuf_start : (State.setByteBuf bytes s).start = s.start := rfl
@[simp] theorem setByteBuf_found : (State.setByteBuf bytes s).found = s.found := rfl
@[simp] theorem setByteBuf_cls : (State.setByteBuf bytes s).cls = s.cls := rfl
@[simp] theorem setByteBuf_csumOk : (State.setByteBuf bytes s).csumOk = s.csumOk := rfl
@[simp] theorem setByteBuf_frame : (State.setByteBuf bytes s).frame = s.frame := rfl
@[simp] theorem setByteBuf_frameValid : (State.setByteBuf bytes s).frameValid = s.frameValid := rfl
@[simp] theorem setByteBuf_statMaxTimings : (State.setByteBuf bytes s).statMaxTimings = s.statMaxTimings := rfl
@[simp] theorem setByteBuf_statPreamble : (State.setByteBuf bytes s).statPreamble = s.statPreamble := rfl
@[simp] theorem setByteBuf_statCsumOk : (State.setByteBuf bytes s).statCsumOk = s.statCsumOk := rfl
@[simp] theorem setByteBuf_statCsumFail : (State.setByteBuf bytes s).statCsumFail = s.statCsumFail := rfl
@[simp] theorem setByteBuf_argId : (State.setByteBuf bytes s).argId = s.argId := rfl
@[simp] theorem setByteBuf_argPressure : (State.setByteBuf bytes s).argPressure = s.argPressure := rfl
@[simp] theorem setByteBuf_argTemp : (State.setByteBuf bytes s).argTemp = s.argTemp := rfl
@[simp] theorem setByteBuf_argNow : (State.setByteBuf bytes s).argNow = s.argNow := rfl
@[simp] theorem setByteBuf_cfgId : (State.setByteBuf bytes s).cfgId = s.cfgId := rfl
@[simp] theorem setByteBuf_slots : (State.setByteBuf bytes s).slots = s.slots := rfl
@[simp] theorem setByteBuf_view : (State.setByteBuf bytes s).view = s.view := rfl
@[simp] theorem setByteBuf_tblRes : (State.setByteBuf bytes s).tblRes = s.tblRes := rfl
@[simp] theorem setByteBuf_port : (State.setByteBuf bytes s).port = s.port := rfl
@[simp] theorem setByteBuf_readData : (State.setByteBuf bytes s).readData = s.readData := rfl
@[simp] theorem setByteBuf_resets : (State.setByteBuf bytes s).resets = s.resets := rfl
end

section
variable (b : Bool) (s : State)
@[simp] theorem setCsumOk_result : (State.setCsumOk b s).result = s.result := rfl
@[simp] theorem setCsumOk_lastOpc : (State.setCsumOk b s).lastOpc = s.lastOpc := rfl
@[simp] theorem setCsumOk_ovfBit : (State.setCsumOk b s).ovfBit = s.ovfBit := rfl
@[simp] theorem setCsumOk_ovfByte : (State.setCsumOk b s).ovfByte = s.ovfByte := rfl
@[simp] theorem setCsumOk_cmdErr : (State.setCsumOk b s).cmdErr = s.cmdErr := rfl
@[simp] theorem setCsumOk_count : (State.setCsumOk b s).count = s.count := rfl
@[simp] theorem setCsumOk_startLevel : (State.setCsumOk b s).startLevel = s.startLevel := rfl
@[simp] theorem setCsumOk_pulse : (State.setCsumOk b s).pulse = s.pulse := rfl
@[simp] theorem setCsumOk_bitBuf : (State.setCsumOk b s).bitBuf = s.bitBuf := rfl
@[simp] theorem setCsumOk_byteBuf : (State.setCsumOk b s).byteBuf = s.byteBuf := rfl
@[simp] theorem setCsumOk_start : (State.setCsumOk b s).start = s.start := rfl
@[simp] theorem setCsumOk_found : (State.setCsumOk b s).found = s.found := rfl
@[simp] theorem setCsumOk_cls : (State.setCsumOk b s).cls = s.cls := rfl
@[simp] theorem setCsumOk_csumOk : (State.setCsumOk b s).csumOk = b := rfl
@[simp] theorem setCsumOk_frame : (State.setCsumOk b s).frame = s.frame := rfl
@[simp] theorem setCsumOk_frameValid : (State.setCsumOk b s).frameValid = s.frameValid := rfl
@[simp] theorem setCsumOk_statMaxTimings : (State.setCsumOk b s).statMaxTimings = s.statMaxTimings := rfl
@[simp] theorem setCsumOk_statPreamble : (State.setCsumOk b s).statPreamble = s.statPreamble := rfl
@[simp] theorem setCsumOk_statCsumOk : (State.setCsumOk b s).statCsumOk = s.statCsumOk := rfl
@[simp] theorem setCsumOk_statCsumFail : (State.setCsumOk b s).statCsumFail = s.statCsumFail := rfl
@[simp] theorem setCsumOk_argId : (State.setCsumOk b s).argId = s.argId := rfl
@[simp] theorem setCsumOk_argPressure : (State.setCsumOk b s).argPressure = s.argPressure := rfl
@[simp] theorem setCsumOk_argTemp : (State.setCsumOk b s).argTemp = s.argTemp := rfl
@[simp] theorem setCsumOk_argNow : (State.setCsumOk b s).argNow = s.argNow := rfl
@[simp] theorem setCsumOk_cfgId : (State.setCsumOk b s).cfgId = s.cfgId := rfl
@[simp] theorem setCsumOk_slots : (State.setCsumOk b s).slots = s.slots := rfl
@[simp] theorem setCsumOk_view : (State.setCsumOk b s).view = s.view := rfl
@[simp] theorem setCsumOk_tblRes : (State.setCsumOk b s).tblRes = s.tblRes := rfl
@[simp] theorem setCsumOk_port : (State.setCsumOk b s).port = s.port := rfl
@[simp] theorem setCsumOk_readData : (State.setCsumOk b s).readData = s.readData := rfl
@[simp] theorem setCsumOk_resets : (State.setCsumOk b s).resets = s.resets := rfl
end

section
variable (t : Vector Slot 12) (s : State)
@[simp] theorem setSlots_result : (State.setSlots t s).result = s.result := rfl
@[simp] theorem setSlots_lastOpc : (State.setSlots t s).lastOpc = s.lastOpc := rfl
@[simp] theorem setSlots_ovfBit : (State.setSlots t s).ovfBit = s.ovfBit := rfl
@[simp] theorem setSlots_ovfByte : (State.setSlots t s).ovfByte = s.ovfByte := rfl
@[simp] theorem setSlots_cmdErr : (State.setSlots t s).cmdErr = s.cmdErr := rfl
@[simp] theorem setSlots_count : (State.setSlots t s).count = s.count := rfl
@[simp] theorem setSlots_startLevel : (State.setSlots t s).startLevel = s.startLevel := rfl
@[simp] theorem setSlots_pulse : (State.setSlots t s).pulse = s.pulse := rfl
@[simp] theorem setSlots_bitBuf : (State.setSlots t s).bitBuf = s.bitBuf := rfl
@[simp] theorem setSlots_byteBuf : (State.setSlots t s).byteBuf = s.byteBuf := rfl
@[simp] theorem setSlots_start : (State.setSlots t s).start = s.start := rfl
@[simp] theorem setSlots_found : (State.setSlots t s).found = s.found := rfl
@[simp] theorem setSlots_cls : (State.setSlots t s).cls = s.cls := rfl
@[simp] theorem setSlots_csumOk : (State.setSlots t s).csumOk = s.csumOk := rfl
@[simp] theorem setSlots_frame : (State.setSlots t s).frame = s.frame := rfl
@[simp] theorem setSlots_frameValid : (State.setSlots t s).frameValid = s.frameValid := rfl
@[simp] theorem setSlots_statMaxTimings : (State.setSlots t s).statMaxTimings = s.statMaxTimings := rfl
@[simp] theorem setSlots_statPreamble : (State.setSlots t s).statPreamble = s.statPreamble := rfl
@[simp] theorem setSlots_statCsumOk : (State.setSlots t s).statCsumOk = s.statCsumOk := rfl
@[simp] theorem setSlots_statCsumFail : (State.setSlots t s).statCsumFail = s.statCsumFail := rfl
@[simp] theorem setSlots_argId : (State.setSlots t s).argId = s.argId := rfl
@[simp] theorem setSlots_argPressure : (State.setSlots t s).argPressure = s.argPressure := rfl
@[simp] theorem setSlots_argTemp : (State.setSlots t s).argTemp = s.argTemp := rfl
@[simp] theorem setSlots_argNow : (State.setSlots t s).argNow = s.argNow := rfl
@[simp] theorem setSlots_cfgId : (State.setSlots t s).cfgId = s.cfgId := rfl
@[simp] theorem setSlots_slots : (State.setSlots t s).slots = t := rfl
@[simp] theorem setSlots_view : (State.setSlots t s).view = s.view := rfl
@[simp] theorem setSlots_tblRes : (State.setSlots t s).tblRes = s.tblRes := rfl
@[simp] theorem setSlots_port : (State.setSlots t s).port = s.port := rfl
@[simp] theorem setSlots_readData : (State.setSlots t s).readData = s.readData := rfl
@[simp] theorem setSlots_resets : (State.setSlots t s).resets = s.resets := rfl
end

section
variable (v : Vector (BitVec 4) 12) (s : State)
@[simp] theorem setView_result : (State.setView v s).result = s.result := rfl
@[simp] theorem setView_lastOpc : (State.setView v s).lastOpc = s.lastOpc := rfl
@[simp] theorem setView_ovfBit : (State.setView v s).ovfBit = s.ovfBit := rfl
@[simp] theorem setView_ovfByte : (State.setView v s).ovfByte = s.ovfByte := rfl
@[simp] theorem setView_cmdErr : (State.setView v s).cmdErr = s.cmdErr := rfl
@[simp] theorem setView_count : (State.setView v s).count = s.count := rfl
@[simp] theorem setView_startLevel : (State.setView v s).startLevel = s.startLevel := rfl
@[simp] theorem setView_pulse : (State.setView v s).pulse = s.pulse := rfl
@[simp] theorem setView_bitBuf : (State.setView v s).bitBuf = s.bitBuf := rfl
@[simp] theorem setView_byteBuf : (State.setView v s).byteBuf = s.byteBuf := rfl
@[simp] theorem setView_start : (State.setView v s).start = s.start := rfl
@[simp] theorem setView_found : (State.setView v s).found = s.found := rfl
@[simp] theorem setView_cls : (State.setView v s).cls = s.cls := rfl
@[simp] theorem setView_csumOk : (State.setView v s).csumOk = s.csumOk := rfl
@[simp] theorem setView_frame : (State.setView v s).frame = s.frame := rfl
@[simp] theorem setView_frameValid : (State.setView v s).frameValid = s.frameValid := rfl
@[simp] theorem setView_statMaxTimings : (State.setView v s).statMaxTimings = s.statMaxTimings := rfl
@[simp] theorem setView_statPreamble : (State.setView v s).statPreamble = s.statPreamble := rfl
@[simp] theorem setView_statCsumOk : (State.setView v s).statCsumOk = s.statCsumOk := rfl
@[simp] theorem setView_statCsumFail : (State.setView v s).statCsumFail = s.statCsumFail := rfl
@[simp] theorem setView_argId : (State.setView v s).argId = s.argId := rfl
@[simp] theorem setView_argPressure : (State.setView v s).argPressure = s.argPressure := rfl
@[simp] theorem setView_argTemp : (State.setView v s).argTemp = s.argTemp := rfl
@[simp] theorem setView_argNow : (State.setView v s).argNow = s.argNow := rfl
@[simp] theorem setView_cfgId : (State.setView v s).cfgId = s.cfgId := rfl
@[simp] theorem setView_slots : (State.setView v s).slots = s.slots := rfl
@[simp] theorem setView_view : (State.setView v s).view = v := rfl
@[simp] theorem setView_tblRes : (State.setView v s).tblRes = s.tblRes := rfl
@[simp] theorem setView_port : (State.setView v s).port = s.port := rfl
@[simp] theorem setView_readData : (State.setView v s).readData = s.readData := rfl
@[simp] theorem setView_resets : (State.setView v s).resets = s.resets := rfl
end

section
variable (r : TableResult) (s : State)
@[simp] theorem setTblRes_result : (State.setTblRes r s).result = s.result := rfl
@[simp] theorem setTblRes_lastOpc : (State.setTblRes r s).lastOpc = s.lastOpc := rfl
@[simp] theorem setTblRes_ovfBit : (State.setTblRes r s).ovfBit = s.ovfBit := rfl
@[simp] theorem setTblRes_ovfByte : (State.setTblRes r s).ovfByte = s.ovfByte := rfl
@[simp] theorem setTblRes_cmdErr : (State.setTblRes r s).cmdErr = s.cmdErr := rfl
@[simp] theorem setTblRes_count : (State.setTblRes r s).count = s.count := rfl
@[simp] theorem setTblRes_startLevel : (State.setTblRes r s).startLevel = s.startLevel := rfl
@[simp] theorem setTblRes_pulse : (State.setTblRes r s).pulse = s.pulse := rfl
@[simp] theorem setTblRes_bitBuf : (State.setTblRes r s).bitBuf = s.bitBuf := rfl
@[simp] theorem setTblRes_byteBuf : (State.setTblRes r s).byteBuf = s.byteBuf := rfl
@[simp] theorem setTblRes_start : (State.setTblRes r s).start = s.start := rfl
@[simp] theorem setTblRes_found : (State.setTblRes r s).found = s.found := rfl
@[simp] theorem setTblRes_cls : (State.setTblRes r s).cls = s.cls := rfl
@[simp] theorem setTblRes_csumOk : (State.setTblRes r s).csumOk = s.csumOk := rfl
@[simp] theorem setTblRes_frame : (State.setTblRes r s).frame = s.frame := rfl
@[simp] theorem setTblRes_frameValid : (State.setTblRes r s).frameValid = s.frameValid := rfl
@[simp] theorem setTblRes_statMaxTimings : (State.setTblRes r s).statMaxTimings = s.statMaxTimings := rfl
@[simp] theorem setTblRes_statPreamble : (State.setTblRes r s).statPreamble = s.statPreamble := rfl
@[simp] theorem setTblRes_statCsumOk : (State.setTblRes r s).statCsumOk = s.statCsumOk := rfl
@[simp] theorem setTblRes_statCsumFail : (State.setTblRes r s).statCsumFail = s.statCsumFail := rfl
@[simp] theorem setTblRes_argId : (State.setTblRes r s).argId = s.argId := rfl
@[simp] theorem setTblRes_argPressure : (State.setTblRes r s).argPressure = s.argPressure := rfl
@[simp] theorem setTblRes_argTemp : (State.setTblRes r s).argTemp = s.argTemp := rfl
@[simp] theorem setTblRes_argNow : (State.setTblRes r s).argNow = s.argNow := rfl
@[simp] theorem setTblRes_cfgId : (State.setTblRes r s).cfgId = s.cfgId := rfl
@[simp] theorem setTblRes_slots : (State.setTblRes r s).slots = s.slots := rfl
@[simp] theorem setTblRes_view : (State.setTblRes r s).view = s.view := rfl
@[simp] theorem setTblRes_tblRes : (State.setTblRes r s).tblRes = r := rfl
@[simp] theorem setTblRes_port : (State.setTblRes r s).port = s.port := rfl
@[simp] theorem setTblRes_readData : (State.setTblRes r s).readData = s.readData := rfl
@[simp] theorem setTblRes_resets : (State.setTblRes r s).resets = s.resets := rfl
end

section
variable (p : List PortEvent) (s : State)
@[simp] theorem setPort_result : (State.setPort p s).result = s.result := rfl
@[simp] theorem setPort_lastOpc : (State.setPort p s).lastOpc = s.lastOpc := rfl
@[simp] theorem setPort_ovfBit : (State.setPort p s).ovfBit = s.ovfBit := rfl
@[simp] theorem setPort_ovfByte : (State.setPort p s).ovfByte = s.ovfByte := rfl
@[simp] theorem setPort_cmdErr : (State.setPort p s).cmdErr = s.cmdErr := rfl
@[simp] theorem setPort_count : (State.setPort p s).count = s.count := rfl
@[simp] theorem setPort_startLevel : (State.setPort p s).startLevel = s.startLevel := rfl
@[simp] theorem setPort_pulse : (State.setPort p s).pulse = s.pulse := rfl
@[simp] theorem setPort_bitBuf : (State.setPort p s).bitBuf = s.bitBuf := rfl
@[simp] theorem setPort_byteBuf : (State.setPort p s).byteBuf = s.byteBuf := rfl
@[simp] theorem setPort_start : (State.setPort p s).start = s.start := rfl
@[simp] theorem setPort_found : (State.setPort p s).found = s.found := rfl
@[simp] theorem setPort_cls : (State.setPort p s).cls = s.cls := rfl
@[simp] theorem setPort_csumOk : (State.setPort p s).csumOk = s.csumOk := rfl
@[simp] theorem setPort_frame : (State.setPort p s).frame = s.frame := rfl
@[simp] theorem setPort_frameValid : (State.setPort p s).frameValid = s.frameValid := rfl
@[simp] theorem setPort_statMaxTimings : (State.setPort p s).statMaxTimings = s.statMaxTimings := rfl
@[simp] theorem setPort_statPreamble : (State.setPort p s).statPreamble = s.statPreamble := rfl
@[simp] theorem setPort_statCsumOk : (State.setPort p s).statCsumOk = s.statCsumOk := rfl
@[simp] theorem setPort_statCsumFail : (State.setPort p s).statCsumFail = s.statCsumFail := rfl
@[simp] theorem setPort_argId : (State.setPort p s).argId = s.argId := rfl
@[simp] theorem setPort_argPressure : (State.setPort p s).argPressure = s.argPressure := rfl
@[simp] theorem setPort_argTemp : (State.setPort p s).argTemp = s.argTemp := rfl
@[simp] theorem setPort_argNow : (State.setPort p s).argNow = s.argNow := rfl
@[simp] theorem setPort_cfgId : (State.setPort p s).cfgId = s.cfgId := rfl
@[simp] theorem setPort_slots : (State.setPort p s).slots = s.slots := rfl
@[simp] theorem setPort_view : (State.setPort p s).view = s.view := rfl
@[simp] theorem setPort_tblRes : (State.setPort p s).tblRes = s.tblRes := rfl
@[simp] theorem setPort_port : (State.setPort p s).port = p := rfl
@[simp] theorem setPort_readData : (State.setPort p s).readData = s.readData := rfl
@[simp] theorem setPort_resets : (State.setPort p s).resets = s.resets := rfl
end

section
variable (v : Word) (s : State)
@[simp] theorem setReadData_result : (State.setReadData v s).result = s.result := rfl
@[simp] theorem setReadData_lastOpc : (State.setReadData v s).lastOpc = s.lastOpc := rfl
@[simp] theorem setReadData_ovfBit : (State.setReadData v s).ovfBit = s.ovfBit := rfl
@[simp] theorem setReadData_ovfByte : (State.setReadData v s).ovfByte = s.ovfByte := rfl
@[simp] theorem setReadData_cmdErr : (State.setReadData v s).cmdErr = s.cmdErr := rfl
@[simp] theorem setReadData_count : (State.setReadData v s).count = s.count := rfl
@[simp] theorem setReadData_startLevel : (State.setReadData v s).startLevel = s.startLevel := rfl
@[simp] theorem setReadData_pulse : (State.setReadData v s).pulse = s.pulse := rfl
@[simp] theorem setReadData_bitBuf : (State.setReadData v s).bitBuf = s.bitBuf := rfl
@[simp] theorem setReadData_byteBuf : (State.setReadData v s).byteBuf = s.byteBuf := rfl
@[simp] theorem setReadData_start : (State.setReadData v s).start = s.start := rfl
@[simp] theorem setReadData_found : (State.setReadData v s).found = s.found := rfl
@[simp] theorem setReadData_cls : (State.setReadData v s).cls = s.cls := rfl
@[simp] theorem setReadData_csumOk : (State.setReadData v s).csumOk = s.csumOk := rfl
@[simp] theorem setReadData_frame : (State.setReadData v s).frame = s.frame := rfl
@[simp] theorem setReadData_frameValid : (State.setReadData v s).frameValid = s.frameValid := rfl
@[simp] theorem setReadData_statMaxTimings : (State.setReadData v s).statMaxTimings = s.statMaxTimings := rfl
@[simp] theorem setReadData_statPreamble : (State.setReadData v s).statPreamble = s.statPreamble := rfl
@[simp] theorem setReadData_statCsumOk : (State.setReadData v s).statCsumOk = s.statCsumOk := rfl
@[simp] theorem setReadData_statCsumFail : (State.setReadData v s).statCsumFail = s.statCsumFail := rfl
@[simp] theorem setReadData_argId : (State.setReadData v s).argId = s.argId := rfl
@[simp] theorem setReadData_argPressure : (State.setReadData v s).argPressure = s.argPressure := rfl
@[simp] theorem setReadData_argTemp : (State.setReadData v s).argTemp = s.argTemp := rfl
@[simp] theorem setReadData_argNow : (State.setReadData v s).argNow = s.argNow := rfl
@[simp] theorem setReadData_cfgId : (State.setReadData v s).cfgId = s.cfgId := rfl
@[simp] theorem setReadData_slots : (State.setReadData v s).slots = s.slots := rfl
@[simp] theorem setReadData_view : (State.setReadData v s).view = s.view := rfl
@[simp] theorem setReadData_tblRes : (State.setReadData v s).tblRes = s.tblRes := rfl
@[simp] theorem setReadData_port : (State.setReadData v s).port = s.port := rfl
@[simp] theorem setReadData_readData : (State.setReadData v s).readData = v := rfl
@[simp] theorem setReadData_resets : (State.setReadData v s).resets = s.resets := rfl
end

section
variable (c : ResultCode) (s : State)
@[simp] theorem setSticky_result : (State.setSticky c s).result = s.result := rfl
@[simp] theorem setSticky_lastOpc : (State.setSticky c s).lastOpc = s.lastOpc := rfl
@[simp] theorem setSticky_ovfBit : (State.setSticky c s).ovfBit = (s.ovfBit || c == .bitOverflow) := rfl
@[simp] theorem setSticky_ovfByte : (State.setSticky c s).ovfByte = (s.ovfByte || c == .byteOverflow) := rfl
@[simp] theorem setSticky_cmdErr : (State.setSticky c s).cmdErr = (s.cmdErr || c == .illegalCmd) := rfl
@[simp] theorem setSticky_count : (State.setSticky c s).count = s.count := rfl
@[simp] theorem setSticky_startLevel : (State.setSticky c s).startLevel = s.startLevel := rfl
@[simp] theorem setSticky_pulse : (State.setSticky c s).pulse = s.pulse := rfl
@[simp] theorem setSticky_bitBuf : (State.setSticky c s).bitBuf = s.bitBuf := rfl
@[simp] theorem setSticky_byteBuf : (State.setSticky c s).byteBuf = s.byteBuf := rfl
@[simp] theorem setSticky_start : (State.setSticky c s).start = s.start := rfl
@[simp] theorem setSticky_found : (State.setSticky c s).found = s.found := rfl
@[simp] theorem setSticky_cls : (State.setSticky c s).cls = s.cls := rfl
@[simp] theorem setSticky_csumOk : (State.setSticky c s).csumOk = s.csumOk := rfl
@[simp] theorem setSticky_frame : (State.setSticky c s).frame = s.frame := rfl
@[simp] theorem setSticky_frameValid : (State.setSticky c s).frameValid = s.frameValid := rfl
@[simp] theorem setSticky_statMaxTimings : (State.setSticky c s).statMaxTimings = s.statMaxTimings := rfl
@[simp] theorem setSticky_statPreamble : (State.setSticky c s).statPreamble = s.statPreamble := rfl
@[simp] theorem setSticky_statCsumOk : (State.setSticky c s).statCsumOk = s.statCsumOk := rfl
@[simp] theorem setSticky_statCsumFail : (State.setSticky c s).statCsumFail = s.statCsumFail := rfl
@[simp] theorem setSticky_argId : (State.setSticky c s).argId = s.argId := rfl
@[simp] theorem setSticky_argPressure : (State.setSticky c s).argPressure = s.argPressure := rfl
@[simp] theorem setSticky_argTemp : (State.setSticky c s).argTemp = s.argTemp := rfl
@[simp] theorem setSticky_argNow : (State.setSticky c s).argNow = s.argNow := rfl
@[simp] theorem setSticky_cfgId : (State.setSticky c s).cfgId = s.cfgId := rfl
@[simp] theorem setSticky_slots : (State.setSticky c s).slots = s.slots := rfl
@[simp] theorem setSticky_view : (State.setSticky c s).view = s.view := rfl
@[simp] theorem setSticky_tblRes : (State.setSticky c s).tblRes = s.tblRes := rfl
@[simp] theorem setSticky_port : (State.setSticky c s).port = s.port := rfl
@[simp] theorem setSticky_readData : (State.setSticky c s).readData = s.readData := rfl
@[simp] theorem setSticky_resets : (State.setSticky c s).resets = s.resets := rfl
end

section
variable (c : ResultCode) (s : State)
@[simp] theorem raise_result : (State.raise c s).result = c := rfl
@[simp] theorem raise_lastOpc : (State.raise c s).lastOpc = s.lastOpc := rfl
@[simp] theorem raise_ovfBit : (State.raise c s).ovfBit = (s.ovfBit || c == .bitOverflow) := rfl
@[simp] theorem raise_ovfByte : (State.raise c s).ovfByte = (s.ovfByte || c == .byteOverflow) := rfl
@[simp] theorem raise_cmdErr : (State.raise c s).cmdErr = (s.cmdErr || c == .illegalCmd) := rfl
@[simp] theorem raise_count : (State.raise c s).count = s.count := rfl
@[simp] theorem raise_startLevel : (State.raise c s).startLevel = s.startLevel := rfl
@[simp] theorem raise_pulse : (State.raise c s).pulse = s.pulse := rfl
@[simp] theorem raise_bitBuf : (State.raise c s).bitBuf = s.bitBuf := rfl
@[simp] theorem raise_byteBuf : (State.raise c s).byteBuf = s.byteBuf := rfl
@[simp] theorem raise_start : (State.raise c s).start = s.start := rfl
@[simp] theorem raise_found : (State.raise c s).found = s.found := rfl
@[simp] theorem raise_cls : (State.raise c s).cls = s.cls := rfl
@[simp] theorem raise_csumOk : (State.raise c s).csumOk = s.csumOk := rfl
@[simp] theorem raise_frame : (State.raise c s).frame = s.frame := rfl
@[simp] theorem raise_frameValid : (State.raise c s).frameValid = s.frameValid := rfl
@[simp] theorem raise_statMaxTimings : (State.raise c s).statMaxTimings = s.statMaxTimings := rfl
@[simp] theorem raise_statPreamble : (State.raise c s).statPreamble = s.statPreamble := rfl
@[simp] theorem raise_statCsumOk : (State.raise c s).statCsumOk = s.statCsumOk := rfl
@[simp] theorem raise_statCsumFail : (State.raise c s).statCsumFail = s.statCsumFail := rfl
@[simp] theorem raise_argId : (State.raise c s).argId = s.argId := rfl
@[simp] theorem raise_argPressure : (State.raise c s).argPressure = s.argPressure := rfl
@[simp] theorem raise_argTemp : (State.raise c s).argTemp = s.argTemp := rfl
@[simp] theorem raise_argNow : (State.raise c s).argNow = s.argNow := rfl
@[simp] theorem raise_cfgId : (State.raise c s).cfgId = s.cfgId := rfl
@[simp] theorem raise_slots : (State.raise c s).slots = s.slots := rfl
@[simp] theorem raise_view : (State.raise c s).view = s.view := rfl
@[simp] theorem raise_tblRes : (State.raise c s).tblRes = s.tblRes := rfl
@[simp] theorem raise_port : (State.raise c s).port = s.port := rfl
@[simp] theorem raise_readData : (State.raise c s).readData = s.readData := rfl
@[simp] theorem raise_resets : (State.raise c s).resets = s.resets := rfl
end

section
variable (f : Bool) (b : BitVec 8) (s : State)
@[simp] theorem setSearch_result : (State.setSearch f b s).result = s.result := rfl
@[simp] theorem setSearch_lastOpc : (State.setSearch f b s).lastOpc = s.lastOpc := rfl
@[simp] theorem setSearch_ovfBit : (State.setSearch f b s).ovfBit = s.ovfBit := rfl
@[simp] theorem setSearch_ovfByte : (State.setSearch f b s).ovfByte = s.ovfByte := rfl
@[simp] theorem setSearch_cmdErr : (State.setSearch f b s).cmdErr = s.cmdErr := rfl
@[simp] theorem setSearch_count : (State.setSearch f b s).count = s.count := rfl
@[simp] theorem setSearch_startLevel : (State.setSearch f b s).startLevel = s.startLevel := rfl
@[simp] theorem setSearch_pulse : (State.setSearch f b s).pulse = s.pulse := rfl
@[simp] theorem setSearch_bitBuf : (State.setSearch f b s).bitBuf = s.bitBuf := rfl
@[simp] theorem setSearch_byteBuf : (State.setSearch f b s).byteBuf = s.byteBuf := rfl
@[simp] theorem setSearch_start : (State.setSearch f b s).start = b := rfl
@[simp] theorem setSearch_found : (State.setSearch f b s).found = f := rfl
@[simp] theorem setSearch_cls : (State.setSearch f b s).cls = s.cls := rfl
@[simp] theorem setSearch_csumOk : (State.setSearch f b s).csumOk = s.csumOk := rfl
@[simp] theorem setSearch_frame : (State.setSearch f b s).frame = s.frame := rfl
@[simp] theorem setSearch_frameValid : (State.setSearch f b s).frameValid = s.frameValid := rfl
@[simp] theorem setSearch_statMaxTimings : (State.setSearch f b s).statMaxTimings = s.statMaxTimings := rfl
@[simp] theorem setSearch_statPreamble : (State.setSearch f b s).statPreamble = s.statPreamble := rfl
@[simp] theorem setSearch_statCsumOk : (State.setSearch f b s).statCsumOk = s.statCsumOk := rfl
@[simp] theorem setSearch_statCsumFail : (State.setSearch f b s).statCsumFail = s.statCsumFail := rfl
@[simp] theorem setSearch_argId : (State.setSearch f b s).argId = s.argId := rfl
@[simp] theorem setSearch_argPressure : (State.setSearch f b s).argPressure = s.argPressure := rfl
@[simp] theorem setSearch_argTemp : (State.setSearch f b s).argTemp = s.argTemp := rfl
@[simp] theorem setSearch_argNow : (State.setSearch f b s).argNow = s.argNow := rfl
@[simp] theorem setSearch_cfgId : (State.setSearch f b s).cfgId = s.cfgId := rfl
@[simp] theorem setSearch_slots : (State.setSearch f b s).slots = s.slots := rfl
@[simp] theorem setSearch_view : (State.setSearch f b s).view = s.view := rfl
@[simp] theorem setSearch_tblRes : (State.setSearch f b s).tblRes = s.tblRes := rfl
@[simp] theorem setSearch_port : (State.setSearch f b s).port = s.port := rfl
@[simp] theorem setSearch_readData : (State.setSearch f b s).readData = s.readData := rfl
@[simp] theorem setSearch_resets : (State.setSearch f b s).resets = s.resets := rfl
end

section
variable (f : Vector Byte 9) (v : Bool) (s : State)
@[simp] theorem setFrame_result : (State.setFrame f v s).result = s.result := rfl
@[simp] theorem setFrame_lastOpc : (State.setFrame f v s).lastOpc = s.lastOpc := rfl
@[simp] theorem setFrame_ovfBit : (State.setFrame f v s).ovfBit = s.ovfBit := rfl
@[simp] theorem setFrame_ovfByte : (State.setFrame f v s).ovfByte = s.ovfByte := rfl
@[simp] theorem setFrame_cmdErr : (State.setFrame f v s).cmdErr = s.cmdErr := rfl
@[simp] theorem setFrame_count : (State.setFrame f v s).count = s.count := rfl
@[simp] theorem setFrame_startLevel : (State.setFrame f v s).startLevel = s.startLevel := rfl
@[simp] theorem setFrame_pulse : (State.setFrame f v s).pulse = s.pulse := rfl
@[simp] theorem setFrame_bitBuf : (State.setFrame f v s).bitBuf = s.bitBuf := rfl
@[simp] theorem setFrame_byteBuf : (State.setFrame f v s).byteBuf = s.byteBuf := rfl
@[simp] theorem setFrame_start : (State.setFrame f v s).start = s.start := rfl
@[simp] theorem setFrame_found : (State.setFrame f v s).found = s.found := rfl
@[simp] theorem setFrame_cls : (State.setFrame f v s).cls = s.cls := rfl
@[simp] theorem setFrame_csumOk : (State.setFrame f v s).csumOk = s.csumOk := rfl
@[simp] theorem setFrame_frame : (State.setFrame f v s).frame = f := rfl
@[simp] theorem setFrame_frameValid : (State.setFrame f v s).frameValid = v := rfl
@[simp] theorem setFrame_statMaxTimings : (State.setFrame f v s).statMaxTimings = s.statMaxTimings := rfl
@[simp] theorem setFrame_statPreamble : (State.setFrame f v s).statPreamble = s.statPreamble := rfl
@[simp] theorem setFrame_statCsumOk : (State.setFrame f v s).statCsumOk = s.statCsumOk := rfl
@[simp] theorem setFrame_statCsumFail : (State.setFrame f v s).statCsumFail = s.statCsumFail := rfl
@[simp] theorem setFrame_argId : (State.setFrame f v s).argId = s.argId := rfl
@[simp] theorem setFrame_argPressure : (State.setFrame f v s).argPressure = s.argPressure := rfl
@[simp] theorem setFrame_argTemp : (State.setFrame f v s).argTemp = s.argTemp := rfl
@[simp] theorem setFrame_argNow : (State.setFrame f v s).argNow = s.argNow := rfl
@[simp] theorem setFrame_cfgId : (State.setFrame f v s).cfgId = s.cfgId := rfl
@[simp] theorem setFrame_slots : (State.setFrame f v s).slots = s.slots := rfl
@[simp] theorem setFrame_view : (State.setFrame f v s).view = s.view := rfl
@[simp] theorem setFrame_tblRes : (State.setFrame f v s).tblRes = s.tblRes := rfl
@[simp] theorem setFrame_port : (State.setFrame f v s).port = s.port := rfl
@[simp] theorem setFrame_readData : (State.setFrame f v s).readData = s.readData := rfl
@[simp] theorem setFrame_resets : (State.setFrame f v s).resets = s.resets := rfl
end

section
variable (s : State)
@[simp] theorem noteTimings_result : (State.noteTimings s).result = s.result := rfl
@[simp] theorem noteTimings_lastOpc : (State.noteTimings s).lastOpc = s.lastOpc := rfl
@[simp] theorem noteTimings_ovfBit : (State.noteTimings s).ovfBit = s.ovfBit := rfl
@[simp] theorem noteTimings_ovfByte : (State.noteTimings s).ovfByte = s.ovfByte := rfl
@[simp] theorem noteTimings_cmdErr : (State.noteTimings s).cmdErr = s.cmdErr := rfl
@[simp] theorem noteTimings_count : (State.noteTimings s).count = s.count := rfl
@[simp] theorem noteTimings_startLevel : (State.noteTimings s).startLevel = s.startLevel := rfl
@[simp] theorem noteTimings_pulse : (State.noteTimings s).pulse = s.pulse := rfl
@[simp] theorem noteTimings_bitBuf : (State.noteTimings s).bitBuf = s.bitBuf := rfl
@[simp] theorem noteTimings_byteBuf : (State.noteTimings s).byteBuf = s.byteBuf := rfl
@[simp] theorem noteTimings_start : (State.noteTimings s).start = s.start := rfl
@[simp] theorem noteTimings_found : (State.noteTimings s).found = s.found := rfl
@[simp] theorem noteTimings_cls : (State.noteTimings s).cls = s.cls := rfl
@[simp] theorem noteTimings_csumOk : (State.noteTimings s).csumOk = s.csumOk := rfl
@[simp] theorem noteTimings_frame : (State.noteTimings s).frame = s.frame := rfl
@[simp] theorem noteTimings_frameValid : (State.noteTimings s).frameValid = s.frameValid := rfl
@[simp] theorem noteTimings_statMaxTimings : (State.noteTimings s).statMaxTimings = (BitVec.ofNat 32 (max s.statMaxTimings.toNat s.count.toNat)) := rfl
@[simp] theorem noteTimings_statPreamble : (State.noteTimings s).statPreamble = s.statPreamble := rfl
@[simp] theorem noteTimings_statCsumOk : (State.noteTimings s).statCsumOk = s.statCsumOk := rfl
@[simp] theorem noteTimings_statCsumFail : (State.noteTimings s).statCsumFail = s.statCsumFail := rfl
@[simp] theorem noteTimings_argId : (State.noteTimings s).argId = s.argId := rfl
@[simp] theorem noteTimings_argPressure : (State.noteTimings s).argPressure = s.argPressure := rfl
@[simp] theorem noteTimings_argTemp : (State.noteTimings s).argTemp = s.argTemp := rfl
@[simp] theorem noteTimings_argNow : (State.noteTimings s).argNow = s.argNow := rfl
@[simp] theorem noteTimings_cfgId : (State.noteTimings s).cfgId = s.cfgId := rfl
@[simp] theorem noteTimings_slots : (State.noteTimings s).slots = s.slots := rfl
@[simp] theorem noteTimings_view : (State.noteTimings s).view = s.view := rfl
@[simp] theorem noteTimings_tblRes : (State.noteTimings s).tblRes = s.tblRes := rfl
@[simp] theorem noteTimings_port : (State.noteTimings s).port = s.port := rfl
@[simp] theorem noteTimings_readData : (State.noteTimings s).readData = s.readData := rfl
@[simp] theorem noteTimings_resets : (State.noteTimings s).resets = s.resets := rfl
end

section
variable (s : State)
@[simp] theorem countPreamble_result : (State.countPreamble s).result = s.result := rfl
@[simp] theorem countPreamble_lastOpc : (State.countPreamble s).lastOpc = s.lastOpc := rfl
@[simp] theorem countPreamble_ovfBit : (State.countPreamble s).ovfBit = s.ovfBit := rfl
@[simp] theorem countPreamble_ovfByte : (State.countPreamble s).ovfByte = s.ovfByte := rfl
@[simp] theorem countPreamble_cmdErr : (State.countPreamble s).cmdErr = s.cmdErr := rfl
@[simp] theorem countPreamble_count : (State.countPreamble s).count = s.count := rfl
@[simp] theorem countPreamble_startLevel : (State.countPreamble s).startLevel = s.startLevel := rfl
@[simp] theorem countPreamble_pulse : (State.countPreamble s).pulse = s.pulse := rfl
@[simp] theorem countPreamble_bitBuf : (State.countPreamble s).bitBuf = s.bitBuf := rfl
@[simp] theorem countPreamble_byteBuf : (State.countPreamble s).byteBuf = s.byteBuf := rfl
@[simp] theorem countPreamble_start : (State.countPreamble s).start = s.start := rfl
@[simp] theorem countPreamble_found : (State.countPreamble s).found = s.found := rfl
@[simp] theorem countPreamble_cls : (State.countPreamble s).cls = s.cls := rfl
@[simp] theorem countPreamble_csumOk : (State.countPreamble s).csumOk = s.csumOk := rfl
@[simp] theorem countPreamble_frame : (State.countPreamble s).frame = s.frame := rfl
@[simp] theorem countPreamble_frameValid : (State.countPreamble s).frameValid = s.frameValid := rfl
@[simp] theorem countPreamble_statMaxTimings : (State.countPreamble s).statMaxTimings = s.statMaxTimings := rfl
@[simp] theorem countPreamble_statPreamble : (State.countPreamble s).statPreamble = (satAdd32 s.statPreamble 1) := rfl
@[simp] theorem countPreamble_statCsumOk : (State.countPreamble s).statCsumOk = s.statCsumOk := rfl
@[simp] theorem countPreamble_statCsumFail : (State.countPreamble s).statCsumFail = s.statCsumFail := rfl
@[simp] theorem countPreamble_argId : (State.countPreamble s).argId = s.argId := rfl
@[simp] theorem countPreamble_argPressure : (State.countPreamble s).argPressure = s.argPressure := rfl
@[simp] theorem countPreamble_argTemp : (State.countPreamble s).argTemp = s.argTemp := rfl
@[simp] theorem countPreamble_argNow : (State.countPreamble s).argNow = s.argNow := rfl
@[simp] theorem countPreamble_cfgId : (State.countPreamble s).cfgId = s.cfgId := rfl
@[simp] theorem countPreamble_slots : (State.countPreamble s).slots = s.slots := rfl
@[simp] theorem countPreamble_view : (State.countPreamble s).view = s.view := rfl
@[simp] theorem countPreamble_tblRes : (State.countPreamble s).tblRes = s.tblRes := rfl
@[simp] theorem countPreamble_port : (State.countPreamble s).port = s.port := rfl
@[simp] theorem countPreamble_readData : (State.countPreamble s).readData = s.readData := rfl
@[simp] theorem countPreamble_resets : (State.countPreamble s).resets = s.resets := rfl
end

section
variable (s : State)
@[simp] theorem countCsumOk_result : (State.countCsumOk s).result = s.result := rfl
@[simp] theorem countCsumOk_lastOpc : (State.countCsumOk s).lastOpc = s.lastOpc := rfl
@[simp] theorem countCsumOk_ovfBit : (State.countCsumOk s).ovfBit = s.ovfBit := rfl
@[simp] theorem countCsumOk_ovfByte : (State.countCsumOk s).ovfByte = s.ovfByte := rfl
@[simp] theorem countCsumOk_cmdErr : (State.countCsumOk s).cmdErr = s.cmdErr := rfl
@[simp] theorem countCsumOk_count : (State.countCsumOk s).count = s.count := rfl
@[simp] theorem countCsumOk_startLevel : (State.countCsumOk s).startLevel = s.startLevel := rfl
@[simp] theorem countCsumOk_pulse : (State.countCsumOk s).pulse = s.pulse := rfl
@[simp] theorem countCsumOk_bitBuf : (State.countCsumOk s).bitBuf = s.bitBuf := rfl
@[simp] theorem countCsumOk_byteBuf : (State.countCsumOk s).byteBuf = s.byteBuf := rfl
@[simp] theorem countCsumOk_start : (State.countCsumOk s).start = s.start := rfl
@[simp] theorem countCsumOk_found : (State.countCsumOk s).found = s.found := rfl
@[simp] theorem countCsumOk_cls : (State.countCsumOk s).cls = s.cls := rfl
@[simp] theorem countCsumOk_csumOk : (State.countCsumOk s).csumOk = s.csumOk := rfl
@[simp] theorem countCsumOk_frame : (State.countCsumOk s).frame = s.frame := rfl
@[simp] theorem countCsumOk_frameValid : (State.countCsumOk s).frameValid = s.frameValid := rfl
@[simp] theorem countCsumOk_statMaxTimings : (State.countCsumOk s).statMaxTimings = s.statMaxTimings := rfl
@[simp] theorem countCsumOk_statPreamble : (State.countCsumOk s).statPreamble = s.statPreamble := rfl
@[simp] theorem countCsumOk_statCsumOk : (State.countCsumOk s).statCsumOk = (satAdd32 s.statCsumOk 1) := rfl
@[simp] theorem countCsumOk_statCsumFail : (State.countCsumOk s).statCsumFail = s.statCsumFail := rfl
@[simp] theorem countCsumOk_argId : (State.countCsumOk s).argId = s.argId := rfl
@[simp] theorem countCsumOk_argPressure : (State.countCsumOk s).argPressure = s.argPressure := rfl
@[simp] theorem countCsumOk_argTemp : (State.countCsumOk s).argTemp = s.argTemp := rfl
@[simp] theorem countCsumOk_argNow : (State.countCsumOk s).argNow = s.argNow := rfl
@[simp] theorem countCsumOk_cfgId : (State.countCsumOk s).cfgId = s.cfgId := rfl
@[simp] theorem countCsumOk_slots : (State.countCsumOk s).slots = s.slots := rfl
@[simp] theorem countCsumOk_view : (State.countCsumOk s).view = s.view := rfl
@[simp] theorem countCsumOk_tblRes : (State.countCsumOk s).tblRes = s.tblRes := rfl
@[simp] theorem countCsumOk_port : (State.countCsumOk s).port = s.port := rfl
@[simp] theorem countCsumOk_readData : (State.countCsumOk s).readData = s.readData := rfl
@[simp] theorem countCsumOk_resets : (State.countCsumOk s).resets = s.resets := rfl
end

section
variable (s : State)
@[simp] theorem countCsumFail_result : (State.countCsumFail s).result = s.result := rfl
@[simp] theorem countCsumFail_lastOpc : (State.countCsumFail s).lastOpc = s.lastOpc := rfl
@[simp] theorem countCsumFail_ovfBit : (State.countCsumFail s).ovfBit = s.ovfBit := rfl
@[simp] theorem countCsumFail_ovfByte : (State.countCsumFail s).ovfByte = s.ovfByte := rfl
@[simp] theorem countCsumFail_cmdErr : (State.countCsumFail s).cmdErr = s.cmdErr := rfl
@[simp] theorem countCsumFail_count : (State.countCsumFail s).count = s.count := rfl
@[simp] theorem countCsumFail_startLevel : (State.countCsumFail s).startLevel = s.startLevel := rfl
@[simp] theorem countCsumFail_pulse : (State.countCsumFail s).pulse = s.pulse := rfl
@[simp] theorem countCsumFail_bitBuf : (State.countCsumFail s).bitBuf = s.bitBuf := rfl
@[simp] theorem countCsumFail_byteBuf : (State.countCsumFail s).byteBuf = s.byteBuf := rfl
@[simp] theorem countCsumFail_start : (State.countCsumFail s).start = s.start := rfl
@[simp] theorem countCsumFail_found : (State.countCsumFail s).found = s.found := rfl
@[simp] theorem countCsumFail_cls : (State.countCsumFail s).cls = s.cls := rfl
@[simp] theorem countCsumFail_csumOk : (State.countCsumFail s).csumOk = s.csumOk := rfl
@[simp] theorem countCsumFail_frame : (State.countCsumFail s).frame = s.frame := rfl
@[simp] theorem countCsumFail_frameValid : (State.countCsumFail s).frameValid = s.frameValid := rfl
@[simp] theorem countCsumFail_statMaxTimings : (State.countCsumFail s).statMaxTimings = s.statMaxTimings := rfl
@[simp] theorem countCsumFail_statPreamble : (State.countCsumFail s).statPreamble = s.statPreamble := rfl
@[simp] theorem countCsumFail_statCsumOk : (State.countCsumFail s).statCsumOk = s.statCsumOk := rfl
@[simp] theorem countCsumFail_statCsumFail : (State.countCsumFail s).statCsumFail = (satAdd32 s.statCsumFail 1) := rfl
@[simp] theorem countCsumFail_argId : (State.countCsumFail s).argId = s.argId := rfl
@[simp] theorem countCsumFail_argPressure : (State.countCsumFail s).argPressure = s.argPressure := rfl
@[simp] theorem countCsumFail_argTemp : (State.countCsumFail s).argTemp = s.argTemp := rfl
@[simp] theorem countCsumFail_argNow : (State.countCsumFail s).argNow = s.argNow := rfl
@[simp] theorem countCsumFail_cfgId : (State.countCsumFail s).cfgId = s.cfgId := rfl
@[simp] theorem countCsumFail_slots : (State.countCsumFail s).slots = s.slots := rfl
@[simp] theorem countCsumFail_view : (State.countCsumFail s).view = s.view := rfl
@[simp] theorem countCsumFail_tblRes : (State.countCsumFail s).tblRes = s.tblRes := rfl
@[simp] theorem countCsumFail_port : (State.countCsumFail s).port = s.port := rfl
@[simp] theorem countCsumFail_readData : (State.countCsumFail s).readData = s.readData := rfl
@[simp] theorem countCsumFail_resets : (State.countCsumFail s).resets = s.resets := rfl
end

section
variable (s : State)
@[simp] theorem clearDecode_result : (State.clearDecode s).result = s.result := rfl
@[simp] theorem clearDecode_lastOpc : (State.clearDecode s).lastOpc = s.lastOpc := rfl
@[simp] theorem clearDecode_ovfBit : (State.clearDecode s).ovfBit = s.ovfBit := rfl
@[simp] theorem clearDecode_ovfByte : (State.clearDecode s).ovfByte = s.ovfByte := rfl
@[simp] theorem clearDecode_cmdErr : (State.clearDecode s).cmdErr = s.cmdErr := rfl
@[simp] theorem clearDecode_count : (State.clearDecode s).count = s.count := rfl
@[simp] theorem clearDecode_startLevel : (State.clearDecode s).startLevel = s.startLevel := rfl
@[simp] theorem clearDecode_pulse : (State.clearDecode s).pulse = s.pulse := rfl
@[simp] theorem clearDecode_bitBuf : (State.clearDecode s).bitBuf = s.bitBuf := rfl
@[simp] theorem clearDecode_byteBuf : (State.clearDecode s).byteBuf = [] := rfl
@[simp] theorem clearDecode_start : (State.clearDecode s).start = 0#8 := rfl
@[simp] theorem clearDecode_found : (State.clearDecode s).found = false := rfl
@[simp] theorem clearDecode_cls : (State.clearDecode s).cls = s.cls := rfl
@[simp] theorem clearDecode_csumOk : (State.clearDecode s).csumOk = false := rfl
@[simp] theorem clearDecode_frame : (State.clearDecode s).frame = zeroFrame := rfl
@[simp] theorem clearDecode_frameValid : (State.clearDecode s).frameValid = false := rfl
@[simp] theorem clearDecode_statMaxTimings : (State.clearDecode s).statMaxTimings = s.statMaxTimings := rfl
@[simp] theorem clearDecode_statPreamble : (State.clearDecode s).statPreamble = s.statPreamble := rfl
@[simp] theorem clearDecode_statCsumOk : (State.clearDecode s).statCsumOk = s.statCsumOk := rfl
@[simp] theorem clearDecode_statCsumFail : (State.clearDecode s).statCsumFail = s.statCsumFail := rfl
@[simp] theorem clearDecode_argId : (State.clearDecode s).argId = s.argId := rfl
@[simp] theorem clearDecode_argPressure : (State.clearDecode s).argPressure = s.argPressure := rfl
@[simp] theorem clearDecode_argTemp : (State.clearDecode s).argTemp = s.argTemp := rfl
@[simp] theorem clearDecode_argNow : (State.clearDecode s).argNow = s.argNow := rfl
@[simp] theorem clearDecode_cfgId : (State.clearDecode s).cfgId = s.cfgId := rfl
@[simp] theorem clearDecode_slots : (State.clearDecode s).slots = s.slots := rfl
@[simp] theorem clearDecode_view : (State.clearDecode s).view = s.view := rfl
@[simp] theorem clearDecode_tblRes : (State.clearDecode s).tblRes = s.tblRes := rfl
@[simp] theorem clearDecode_port : (State.clearDecode s).port = s.port := rfl
@[simp] theorem clearDecode_readData : (State.clearDecode s).readData = s.readData := rfl
@[simp] theorem clearDecode_resets : (State.clearDecode s).resets = s.resets := rfl
end

end Sys2Proof.Machine
end

