-- ==== Sys2Proof/Laws/Ops.lean ====
section
/-!
SUPPORT. One lemma for each shared operation that says once everything it can do: bounded append, saturating
addition, the pulse memory, the flags, the table searches.
-/

namespace Sys2Proof.Machine

/-! ## Bounded append and saturating addition -/

/-- An append either adds the element below the capacity or is rejected at it (00_scope R7). -/
theorem append_eq_some {α : Type} {cap : Nat} {buf buf' : List α} {e : α} :
    append cap buf e = some buf' ↔ buf.length < cap ∧ buf' = buf ++ [e] := by
  unfold append
  split <;> simp_all [eq_comm]

theorem append_eq_none {α : Type} {cap : Nat} {buf : List α} {e : α} :
    append cap buf e = none ↔ cap ≤ buf.length := by
  unfold append
  split <;> simp_all

theorem satAdd32_toNat (a : Word) (b : Nat) : (satAdd32 a b).toNat = min (a.toNat + b) (2 ^ 32 - 1) := by
  unfold satAdd32
  rw [BitVec.toNat_ofNat, Nat.mod_eq_of_lt]
  omega

/-! ## The pulse memory -/

theorem lookup_store_same (m : Memory) (i : Nat) (v : Duration) : (m.store i v).lookup i = some v := by
  induction m with
  | nil => simp [Memory.store, Memory.lookup]
  | cons c rest ih =>
    obtain ⟨k, d⟩ := c
    simp only [Memory.store]
    split
    · simp [Memory.lookup]
    · split <;> simp_all [Memory.lookup]

theorem lookup_store_other (m : Memory) {i j : Nat} (v : Duration) (h : j ≠ i) :
    (m.store i v).lookup j = m.lookup j := by
  induction m with
  | nil => simp [Memory.store, Memory.lookup, h]
  | cons c rest ih =>
    obtain ⟨k, d⟩ := c
    simp only [Memory.store]
    split
    · simp [Memory.lookup, h]
    · split <;> simp_all [Memory.lookup]

theorem risingFrom_store (m : Memory) {lo i : Nat} (v : Duration) (hlo : lo ≤ i) (hi : i < 255)
    (h : m.risingFrom lo = true) : (m.store i v).risingFrom lo = true := by
  induction m generalizing lo with
  | nil => simp [Memory.store, Memory.risingFrom, hlo, hi]
  | cons c rest ih =>
    obtain ⟨k, d⟩ := c
    simp only [Memory.risingFrom, Bool.and_eq_true, decide_eq_true_eq, Config.pulseCap] at h
    obtain ⟨⟨hk, hcap⟩, hrest⟩ := h
    simp only [Memory.store]
    split
    · have h1 : i + 1 ≤ k := by omega
      simp [Memory.risingFrom, hrest, hlo, hi, hcap, h1]
    · split
      · subst_vars
        simp [Memory.risingFrom, hrest, hlo, hi]
      · have h1 := ih (lo := k + 1) (by omega) hrest
        simp [Memory.risingFrom, h1, hk, hcap]

/-- The one write of the pulse memory keeps the canonical form. -/
theorem wf_store (m : Memory) {i : Nat} (v : Duration) (hi : i < 255) (h : m.wf = true) : (m.store i v).wf = true :=
  risingFrom_store m v (Nat.zero_le i) hi h

/-- The pulse memory of reset is in canonical form. -/
theorem wf_reset : Memory.wf State.reset.pulse = true := rfl

/-! ## Flags and reset -/

/-- Everything `raise` does: RESULT and the sticky flag of the code (60_exceptions R136). -/
theorem raise_eq (c : ResultCode) (s : State) :
    s.raise c = { s with
      result := c
      ovfBit := s.ovfBit || c == .bitOverflow
      ovfByte := s.ovfByte || c == .byteOverflow
      cmdErr := s.cmdErr || c == .illegalCmd } := rfl

/-- Everything a reset event does (70_reset_and_hazards R150). -/
theorem takeReset_eq (s : State) :
    s.takeReset = { State.reset with port := s.port, readData := s.readData, resets := s.resets + 1 } := rfl

/-! ## Bit recovery and the Manchester stage -/

/-- Appending a level never shortens the buffer nor lets it pass the capacity; it overflows exactly when the copies
do not all fit, and keeps those that do. -/
theorem appendLevel_eq (r : Nat) (level : Bool) (bits : List Bool) (h : bits.length ≤ 200) :
    appendLevel r level bits
      = ((bits ++ List.replicate r level).take 200, decide (200 < bits.length + r)) := by
  induction r generalizing bits with
  | zero => simp [appendLevel, List.take_of_length_le h]; omega
  | succ r ih =>
    rw [appendLevel]
    cases ha : append Config.bitCap bits level with
    | none =>
      have : bits.length = 200 := by have := append_eq_none.mp ha; simp at this; omega
      rw [List.take_append_of_le_length (by omega), List.take_of_length_le h]
      simp; omega
    | some bits' =>
      obtain ⟨hl, rfl⟩ := append_eq_some.mp ha
      simp only [Config.bitCap] at hl
      simp only
      rw [ih _ (by simp; omega)]
      simp [List.replicate_succ, Nat.add_assoc, Nat.add_comm 1]

/-! ## The table -/

/-- A match is a candidate that holds the id. -/
theorem matchIn_some {slots : Vector Slot 12} {id : Word} {cands : List (Fin 12)} {i : Fin 12}
    (h : matchIn slots id cands = some i) : i ∈ cands ∧ slots[i].id = id := by
  have h1 := List.mem_of_find?_eq_some h
  have h2 := List.find?_some h
  exact ⟨h1, by simpa using h2⟩

/-- No match: no candidate holds the id. -/
theorem matchIn_none {slots : Vector Slot 12} {id : Word} {cands : List (Fin 12)} :
    matchIn slots id cands = none ↔ ∀ i ∈ cands, slots[i].id ≠ id := by
  simp [matchIn]

theorem scoreUp_toNat (b : Byte) : (scoreUp b).toNat = min (b.toNat + 10) 250 := by
  simp only [scoreUp, Config.scoreAdd, Config.scoreMax, BitVec.toNat_ofNat]
  rw [Nat.mod_eq_of_lt]
  omega

theorem scoreDown_toNat (b : Byte) : (scoreDown b).toNat = b.toNat - 10 := by
  have := b.isLt
  simp only [scoreDown, Config.scoreDec, BitVec.toNat_ofNat]
  rw [Nat.mod_eq_of_lt]
  omega

theorem insertView_length (slots : Vector Slot 12) (i : Fin 12) (l : List (Fin 12)) :
    (insertView slots i l).length = l.length + 1 := by
  induction l with
  | nil => rfl
  | cons j rest ih => simp only [insertView]; split <;> simp [ih]

/-- Inserting an index adds it and keeps the others. -/
theorem insertView_perm (slots : Vector Slot 12) (i : Fin 12) (l : List (Fin 12)) :
    (insertView slots i l).Perm (i :: l) := by
  induction l with
  | nil => exact List.Perm.refl _
  | cons j rest ih =>
    simp only [insertView]
    split
    · exact List.Perm.refl _
    · exact (List.Perm.cons j ih).trans (List.Perm.swap i j rest)

/-- The sorted extra slots are the extra slots. -/
theorem sortedExtra_perm (slots : Vector Slot 12) : (sortedExtra slots).Perm extraSlots := by
  unfold sortedExtra
  generalize extraSlots = l
  induction l with
  | nil => exact List.Perm.refl _
  | cons i rest ih => exact (insertView_perm slots i _).trans (List.Perm.cons i ih)

end Sys2Proof.Machine
end

