-- ==== Sys2Proof/Laws/PerInstr.lean ====
section
/-!
SUPPORT. The per-instruction family EncodedOpcode: the word of a command has its opcode in bits 7:0, its immediate in
bits 23:8 and zero in bits 31:24 (spec/30_encoding.md R61).
-/

namespace Sys2Proof.Laws.EncodedOpcode

/-- The three fields of the command word of `i`. -/
def Statement (i : Instr) : Prop :=
  opcodeField (encode i) = opcode i ∧ immField (encode i) = immediate i ∧ zeroField (encode i) = 0#8

/-- The fields of any word of format C. -/
theorem fields_of_word (imm : BitVec 16) (opc : Byte) :
    opcodeField (field opc 0 ||| field imm 8) = opc ∧ immField (field opc 0 ||| field imm 8) = imm
      ∧ zeroField (field opc 0 ||| field imm 8) = 0#8 := by
  refine ⟨?_, ?_, ?_⟩
  · ext k hk
    simp [opcodeField, field, hk, Nat.lt_trans hk (by decide : 8 < 32)]
  · ext k hk
    have h1 : 8 + k < 32 := by omega
    simp [immField, field, h1, BitVec.getLsbD_eq_getElem hk]
  · ext k hk
    have h1 : 24 + k < 32 := by omega
    have h2 : 24 + k - 8 = 16 + k := by omega
    simp [zeroField, field, h1, h2, BitVec.getLsbD_of_ge opc (24 + k) (by omega)]

theorem classify (d : Duration) : Statement (.classify d) := fields_of_word _ _
theorem bitdec : Statement .bitdec := fields_of_word _ _
theorem findpre : Statement .findpre := fields_of_word _ _
theorem mandec : Statement .mandec := fields_of_word _ _
theorem csum : Statement .csum := fields_of_word _ _
theorem decode : Statement .decode := fields_of_word _ _
theorem onframe : Statement .onframe := fields_of_word _ _
theorem decay : Statement .decay := fields_of_word _ _
theorem view : Statement .view := fields_of_word _ _
theorem applycfg (imm : BitVec 16) : Statement (.applycfg imm) := fields_of_word _ _

end Sys2Proof.Laws.EncodedOpcode
end

