-- ==== Sys2Proof/Tests/Slice0.lean ====
section
/-!
SUPPORT. Tests of one step each, with expected values from spec/95_test_vectors.md (the vector is named in each
comment), and for every statement with hypotheses a theorem that a concrete state and operands meet them.
-/

namespace Sys2Proof.Tests

open Sys2Proof Sys2Proof.Machine

/-! ## Helpers -/

/-- The next state of an outcome (an outcome here is always one). -/
def after : Host.Outcome State Fault Refusal → State
  | .next t => t
  | .refused _ => State.reset

/-- The reset state with a capture written, from (repetitions, duration) pairs. -/
def loaded (level : Bool) (runs : List (Nat × Nat)) : State :=
  let pulses := runs.flatMap fun r => List.replicate r.1 r.2
  { State.reset with
    startLevel := level
    count := BitVec.ofNat 8 pulses.length
    pulse := pulses.zipIdx.map fun d => (d.2, BitVec.ofNat 16 d.1) }

/-- The 126 pulses of V30: S = 30, L = 110. -/
def v30Runs : List (Nat × Nat) :=
  [(13, 30), (2, 110), (4, 30), (1, 110), (2, 30), (3, 110), (4, 30), (5, 110), (2, 30), (1, 110), (2,
   30), (1, 110), (6, 30), (1, 110), (4, 30), (2, 110), (2, 30), (1, 110), (2, 30), (6, 110), (6, 30),
   (1, 110), (2, 30), (1, 110), (2, 30), (2, 110), (6, 30), (2, 110), (4, 30), (1, 110), (6, 30), (2,
   110), (10, 30), (1, 110), (2, 30), (1, 110), (13, 30)]

/-- V30's capture. -/
def v30 : State := loaded true v30Runs

/-- V30's payload, 1A 2B 3C 4D 5E 6F 70 81. -/
def v30Payload : List Byte := [0x1A, 0x2B, 0x3C, 0x4D, 0x5E, 0x6F, 0x70, 0x81]

/-- The reset state with the table given, slots from 0 on, and the ONFRAME operands. -/
def withTable (slots : List Slot) (id p t now : Word) : State :=
  { State.reset with
    slots := Vector.ofFn fun i => slots.getD i.val Slot.empty
    argId := id, argPressure := p, argTemp := t, argNow := now }

/-- The table of program 5 after its five frames. -/
def program5 (id : Word) : State :=
  withTable
    [⟨0xAAAA0001, 0, 0, 0, 0⟩, ⟨0xAAAA0002, 0x42100000, 0x41A00000, 10, 100⟩, ⟨0xAAAA0003, 0, 0, 0, 0⟩,
     ⟨0xAAAA0004, 0, 0, 0, 0⟩, ⟨0x1A2B3C4D, 0x42080000, 0x41980000, 20, 110⟩, ⟨0xBBBB0001, 1, 2, 10, 111⟩]
    id 7 8 120

/-- The full table of V68 before 0x999 arrives. -/
def v68 : State :=
  withTable
    ([⟨0, 0, 0, 0, 0⟩, ⟨0, 0, 0, 0, 0⟩, ⟨0, 0, 0, 0, 0⟩, ⟨0, 0, 0, 0, 0⟩,
      ⟨0x100, 0, 0, 10, 50⟩, ⟨0x101, 0, 0, 10, 40⟩, ⟨0x102, 0, 0, 10, 30⟩, ⟨0x103, 0, 0, 10, 20⟩,
      ⟨0x104, 0, 0, 10, 60⟩, ⟨0x105, 0, 0, 10, 70⟩, ⟨0x106, 0, 0, 10, 20⟩, ⟨0x107, 0, 0, 10, 80⟩])
    0x999 0 0 90

/-- A state whose next port event is `e`. -/
def arriving (e : PortEvent) : State := { State.reset with port := [e] }

/-! ## Well-formedness and decoding (30_encoding R61 to R64) -/

/-- IMM[15:1] of APPLYCFG must be 0. -/
theorem test_applycfg_reserved_bit_refused : ¬ WellFormed (.applycfg 2#16) := by decide
theorem test_applycfg_top_bit_refused : ¬ WellFormed (.applycfg 0x8001#16) := by decide

theorem test_decode_classify : decode 0x00001E01#32 = .ok (.classify 30#16) := by decide
theorem test_decode_classify_max : decode 0x00FFFF01#32 = .ok (.classify 65535#16) := by decide
theorem test_decode_bitdec : decode 0x00000002#32 = .ok .bitdec := by decide
theorem test_decode_findpre : decode 0x00000003#32 = .ok .findpre := by decide
theorem test_decode_mandec : decode 0x00000004#32 = .ok .mandec := by decide
theorem test_decode_csum : decode 0x00000005#32 = .ok .csum := by decide
theorem test_decode_decode : decode 0x00000006#32 = .ok .decode := by decide
theorem test_decode_onframe : decode 0x00000008#32 = .ok .onframe := by decide
theorem test_decode_decay : decode 0x00000009#32 = .ok .decay := by decide
theorem test_decode_view : decode 0x0000000A#32 = .ok .view := by decide
theorem test_decode_applycfg_invalid : decode 0x0000000B#32 = .ok (.applycfg 0#16) := by decide
theorem test_decode_applycfg_valid : decode 0x0000010B#32 = .ok (.applycfg 1#16) := by decide
/-- V9, V80, V81, V82, V83, V85. -/
theorem test_decode_illegal :
    decode 0x01001E01#32 = .error .zeroField ∧ decode 0x00000000#32 = .error .opcode
      ∧ decode 0x00000007#32 = .error .opcode ∧ decode 0x00000106#32 = .error .immediate
      ∧ decode 0x0000020B#32 = .error .immediate ∧ decode 0x800000FF#32 = .error .zeroField := by decide
theorem test_table_word : decodeTableWord 32 0x0000010B = some (.applycfg 1#16) := by decide

/-! ## The commands -/

/-- V2, V3: the thresholds from below. -/
theorem test_classify_20 :
    (after (exec (.classify 19#16) State.reset)).cls = .invalid
      ∧ (after (exec (.classify 20#16) State.reset)).cls = .short := by decide
/-- V5, V6. -/
theorem test_classify_80 :
    (after (exec (.classify 79#16) State.reset)).cls = .short
      ∧ (after (exec (.classify 80#16) State.reset)).cls = .long := by decide
/-- V10. -/
theorem test_bitdec_v10 :
    (after (exec .bitdec (loaded true [(1, 30), (1, 110), (1, 10), (1, 30), (1, 85), (1, 19), (1, 20), (1, 79),
      (1, 80)]))).bitBuf = [true, false, false, false, true, true, true, false, true, true] := by decide
/-- V17: the last Long pulse is stored half. -/
theorem test_bitdec_v17 :
    let t := after (exec .bitdec (loaded true [(1, 30), (100, 110)]))
    t.bitBuf.length = 200 ∧ t.bitBuf.getLast? = some true ∧ statusWord t &&& 0x1000F#32 = 0x10003#32 := by
  decide +kernel
/-- V23: `10` then P. -/
theorem test_findpre_v23 :
    let t := after (exec .findpre { State.reset with bitBuf := [true, false] ++ Config.preamble })
    t.found = true ∧ t.start = 18#8 := by decide
/-- V21: P without its last bit. -/
theorem test_findpre_v21 :
    let t := after (exec .findpre { State.reset with bitBuf := Config.preamble.take 15, start := 9#8 })
    t.found = false ∧ t.start = 0#8 ∧ t.result = .noPreamble := by decide
/-- V47, V48: the pairs 11 and 00 decode as 1. -/
theorem test_mandec_v47 :
    (after (exec .mandec { State.reset with
      bitBuf := [true, true, false, false] ++ (List.replicate 6 [true, false]).flatten })).byteBuf = [0xC0#8] := by
  decide
/-- V52: eleven groups. -/
theorem test_mandec_v52 :
    let t := after (exec .mandec { State.reset with
      bitBuf := (List.replicate 100 [true, false]).flatten, start := 24#8 })
    t.byteBuf = List.replicate 10 0#8 ∧ t.result = .byteOverflow ∧ t.ovfByte = true := by decide +kernel
/-- V60. -/
theorem test_csum_v60 :
    (after (exec .csum { State.reset with byteBuf := v30Payload ++ [0x80#8] })).csumOk = true := by decide
/-- V56: fewer than nine bytes. -/
theorem test_csum_v56 :
    (after (exec .csum { State.reset with byteBuf := List.replicate 8 0#8, csumOk := true })).csumOk = false := by
  decide
/-- V30: the reference capture. -/
theorem test_decode_v30 :
    let t := after (exec .decode v30)
    t.result = .ok ∧ t.frame.toList = v30Payload ++ [0x80#8] ∧ t.statMaxTimings = 126#32 ∧ t.statCsumOk = 1#32 := by
  decide +kernel
/-- V35: V30 with STARTLEVEL = 0. -/
theorem test_decode_v35 :
    let t := after (exec .decode (loaded false v30Runs))
    t.result = .noPreamble ∧ bitsWord t.bitBuf 0 = 0x55565699#32 ∧ t.statPreamble = 0#32 := by decide +kernel
/-- V61. -/
theorem test_onframe_v61 :
    let t := after (exec .onframe (withTable [] 0x1A2B3C4D 0x42080000 0x41980000 105))
    t.slots[4] = ⟨0x1A2B3C4D, 0x42080000, 0x41980000, 10, 105⟩ ∧ tblResWord t.tblRes = 0x34#32 := by decide
/-- V68: equal scores, the oldest LASTSEEN, the lower index. -/
theorem test_onframe_v68 :
    let t := after (exec .onframe v68)
    t.slots[7] = ⟨0x999, 0, 0, 10, 90⟩ ∧ tblResWord t.tblRes = 0x77#32 := by decide
/-- Program 5, the first DECAY. -/
theorem test_decay_program5 :
    let t := after (exec .decay (program5 0))
    t.slots[1] = ⟨0xAAAA0002, 0x42100000, 0x41A00000, 0, 100⟩ ∧ t.slots[4].score = 10#8
      ∧ t.slots[5] = Slot.empty := by decide
/-- R125's example: extra scores 10, 30, 10, 20, 10, 40, 10, 10. -/
theorem test_view_example :
    let t := after (exec .view (withTable (List.replicate 4 Slot.empty
      ++ [10, 30, 10, 20, 10, 40, 10, 10].map fun s => ⟨1, 0, 0, s, 0⟩) 0 0 0 0))
    viewWord t.view 0 = 0x47593210#32 ∧ viewWord t.view 1 = 0x0000BA86#32 := by decide
/-- V71: the identity order. -/
theorem test_view_v71 :
    let t := after (exec .view State.reset)
    viewWord t.view 0 = 0x76543210#32 ∧ viewWord t.view 1 = 0x0000BA98#32 := by decide
/-- V65 and the last command of program 5: a rejected configuration. -/
theorem test_applycfg_rejected :
    let t := after (exec (.applycfg 0#16) (program5 0))
    t.slots[1] = Slot.empty ∧ t.slots[4] = ⟨0x1A2B3C4D, 0x42080000, 0x41980000, 20, 110⟩ := by decide
/-- V64's configuration. -/
theorem test_applycfg_accepted :
    let t := after (exec (.applycfg 1#16) { State.reset with cfgId := #v[0xAAAA0001, 0xAAAA0002, 0, 4] })
    t.slots[0] = ⟨0xAAAA0001, 0, 0, 0, 0⟩ ∧ t.slots[2] = Slot.empty := by decide

/-! ## The port -/

/-- V80 and V81: STATUS after an illegal word. -/
theorem test_illegal_status :
    statusWord (after (step (arriving (.write 0#9 0#32)))) = 0x0004000F#32
      ∧ statusWord (after (step (arriving (.write 0#9 7#32)))) = 0x0004070F#32 := by decide
/-- V89: PULSE[3] stores 16 bits. -/
theorem test_pulse_write :
    memRead (after (step (arriving (.write (Reg.pulse 3).index 0xABCD0050#32)))) (Reg.pulse 3).index
      = 0x00000050#32 := by decide
/-- V90: STATUS is read-only. -/
theorem test_status_read_only :
    after (step (arriving (.write Reg.status.index 0xFFFFFFFF#32))) = State.reset := by decide
/-- The host's own question: the word of a command runs as the first command after reset. -/
theorem test_first_command :
    statusWord (after (step (State.reset.withFetchWord 32 0x0000000A))) = 0x00000A00#32 := by decide

/-! ## Witnesses: the hypotheses of each statement can be met -/

theorem witness_DecodeOfEncodeIsTheCommand : WellFormed (.applycfg 1#16) ∧ WellFormed (.classify 65535#16) := by decide

theorem witness_EncodeOfDecodeIsTheWord : decode 0x0000010B#32 = .ok (.applycfg 1#16) := by decide

theorem witness_DecoderFollowsOpcodeMap :
    decode 0x00001E01#32 = .ok (.classify 30#16)
      ∧ ⟨"CLASSIFY", 0x00000001#32, 0xFF0000FF#32⟩ ∈ opcodeRows
      ∧ 0x00001E01#32 &&& 0xFF0000FF#32 = 0x00000001#32 := by decide

theorem witness_StepTakesNextAccess :
    (arriving (.read 1#9)).port = [.read 1#9] ∧ (arriving (.write 0#9 6#32)).port = [.write 0#9 6#32]
      ∧ (2#9 ≠ 0#9 ∧ (arriving (.write 2#9 6#32)).port = [.write 2#9 6#32])
      ∧ (arriving .reset).port = [.reset] ∧ State.reset.port = [] := by decide

theorem witness_StepRunsDecodedCommand :
    (arriving (.write 0#9 6#32)).port = [.write 0#9 6#32] ∧ decode 6#32 = .ok .decode := by decide

/-- One word for each clause of R64, at its boundary, and a word that is none of them. -/
theorem witness_IllegalWordOnlyReports :
    (IllegalWord 0x01000006#32 ∧ IllegalWord 0x00000000#32 ∧ IllegalWord 0x00000007#32)
      ∧ (IllegalWord 0x0000000C#32 ∧ IllegalWord 0x00000106#32 ∧ IllegalWord 0x0000020B#32)
      ∧ ¬ IllegalWord 0x0000010B#32 :=
  ⟨⟨by decide, by decide, by decide⟩, ⟨by decide, by decide, by decide⟩, by decide⟩

theorem witness_ReadReturnsImplementedBits :
    regAt 15#9 = none ∧ regAt 0#9 = some .cmd ∧ regAt 2#9 = some .count
      ∧ (arriving (.read 2#9)).port = [.read 2#9] := by decide

theorem witness_WriteStoresImplementedBits :
    (arriving (.write 0#9 6#32)).port = [.write 0#9 6#32]
      ∧ (regAt 2#9 = some .count ∧ Reg.access .count = .readWrite)
      ∧ (1#9 ≠ 0#9 ∧ regAt 1#9 = some .status ∧ Reg.access .status ≠ .readWrite) ∧ (3#9 ≠ 2#9) := by decide

theorem witness_AddressMapRoundTrip : regAt 510#9 = some (.pulse 254) := by decide

theorem witness_ReservedReadsZeroIgnoresWrites : regAt 511#9 = none := by decide

theorem witness_BitsWindowReadsBitbuf : 31 < 32 := by decide

theorem witness_BytesWindowReadsBytebuf : 3 < 4 := by decide

theorem witness_ResetClearsTheBlock :
    (State.reset = State.reset ∨ State.reset = v30.takeReset)
      ∧ ((10#9).toNat < 256 ∨ (10#9).toNat = 511) ∧ ((511#9).toNat < 256 ∨ (511#9).toNat = 511) :=
  ⟨Or.inl rfl, by decide, by decide⟩

theorem witness_PulseEntryKeepsItsValue :
    step (arriving (.read 1#9)) = .next (after (step (arriving (.read 1#9)))) ∧ noResetNext (arriving (.read 1#9))
      ∧ ∀ v rest, (arriving (.read 1#9)).port ≠ .write (Reg.pulse 254).index v :: rest :=
  ⟨rfl, (fun _ h => by cases h), (fun _ _ h => by cases h)⟩

theorem witness_EveryBitSequenceHasACapture : (List.replicate 200 true).length ≤ 200 := by decide +kernel

theorem witness_BitRecoveryLevelProperties : ∀ d ∈ [20#16, 79#16, 80#16], 20 ≤ d.toNat := by simp

theorem witness_SearchMachineAgreesWithFindpre : 16 * (Config.preamble.length + 1) ≤ 272 := by decide

theorem witness_FindpreResult :
    (PreambleAt ({ State.reset with bitBuf := Config.preamble } : State).bitBuf 0
      ∧ ∀ c' < 0, ¬ PreambleAt ({ State.reset with bitBuf := Config.preamble } : State).bitBuf c')
    ∧ ∀ c, ¬ PreambleAt State.reset.bitBuf c :=
  ⟨by decide, fun c => by simp [PreambleAt, State.reset]⟩

theorem witness_MandecClosedForm : 9 < min ((200 - 40) / 16) 10 ∧ 7 < 8 := by decide

theorem witness_MandecInvertsEncoding : (List.replicate 10 0xA5#8).length ≤ 10 := by decide

theorem witness_ChecksumIsXorOfEight : (List.replicate 8 0#8).length < 9 := by decide

theorem witness_ChecksumRejectsSingleBitFlips :
    v30Payload.length = 8 ∧ (v30Payload ++ [0x80#8]).length = 9 ∧ csumValid (v30Payload ++ [0x80#8]) = true
      ∧ 8 < 9 ∧ 7 < 8 := by decide

theorem witness_CsumResult :
    csumValid ({ State.reset with byteBuf := v30Payload ++ [0x80#8] } : State).byteBuf = true
      ∧ csumValid State.reset.byteBuf = false := by decide

theorem witness_DecodeCountersByResult : exec .decode v30 = .next (decodeBits v30.noteTimings.clearDecode) := rfl

/-- Two states that differ in the staging state, the table and PULSE beyond COUNT. -/
theorem witness_DecodeDependsOnCaptureAndCounters :
    let s := loaded true [(2, 30)]
    let u : State := { program5 0 with
      count := s.count, startLevel := s.startLevel, pulse := s.pulse ++ [(2, 99#16)], bitBuf := [true] }
    u.count = s.count ∧ u.startLevel = s.startLevel ∧ (∀ k < s.count.toNat, u.pulseAt k = s.pulseAt k)
      ∧ u.statMaxTimings = s.statMaxTimings ∧ u.statPreamble = s.statPreamble
      ∧ u.statCsumOk = s.statCsumOk ∧ u.statCsumFail = s.statCsumFail
      ∧ exec .decode s = .next (decodeBits s.noteTimings.clearDecode) :=
  ⟨rfl, rfl, by decide, rfl, rfl, rfl, rfl, rfl⟩

theorem witness_SecondDecodeLeavesTheSame :
    exec .decode v30 = .next (decodeBits v30.noteTimings.clearDecode) := rfl

/-- V30 is a capture of the run lengths of its own frame. -/
theorem witness_FrameRoundTrip :
    v30Payload.length = 8 ∧ v30.startLevel = true
      ∧ ((List.range v30.count.toNat).map v30.pulseAt).map classify = runClasses (frameBits v30Payload) := by
  decide +kernel

theorem bitdec_after (s : State) : exec .bitdec s = .next (after (exec .bitdec s)) := by
  simp only [exec, execBitdec]; split <;> rfl
theorem findpre_after (s : State) : exec .findpre s = .next (after (exec .findpre s)) := by
  simp only [exec, execFindpre]; split <;> rfl
theorem mandec_after (s : State) : exec .mandec s = .next (after (exec .mandec s)) := by
  simp only [exec, execMandec]; split <;> rfl
theorem csum_after (s : State) : exec .csum s = .next (after (exec .csum s)) := by
  simp only [exec, execCsum]; split <;> rfl
theorem onframe_after (s : State) : exec .onframe s = .next (after (exec .onframe s)) := by
  simp only [exec, execOnframe]; repeat (first | rfl | split)

theorem witness_DecodeAgreesWithStageCommands :
    exec .decode v30 = .next (decodeBits v30.noteTimings.clearDecode)
      ∧ (decodeBits v30.noteTimings.clearDecode).result = .ok
      ∧ ∃ b f m c, exec .bitdec v30 = .next b ∧ exec .findpre b = .next f ∧ exec .mandec f = .next m
        ∧ exec .csum m = .next c :=
  ⟨rfl, by decide +kernel, _, _, _, _, bitdec_after _, findpre_after _, mandec_after _, csum_after _⟩

/-- The four cases of ONFRAME on program 5's table: id 0, slot 1, slot 4 (boundary of the extra slots), a new id. -/
theorem witness_OnframeResult :
    (program5 0).argId = 0#32
      ∧ ((program5 0xAAAA0004).argId ≠ 0#32 ∧ (program5 0xAAAA0004).slots[3].id = (program5 0xAAAA0004).argId
        ∧ ∀ j : Fin 12, j < 3 → (program5 0xAAAA0004).slots[j].id ≠ (program5 0xAAAA0004).argId)
      ∧ ((program5 0x1A2B3C4D).argId ≠ 0#32 ∧ (program5 0x1A2B3C4D).slots[4].id = (program5 0x1A2B3C4D).argId
        ∧ ∀ j : Fin 12, j < 4 → (program5 0x1A2B3C4D).slots[j].id ≠ (program5 0x1A2B3C4D).argId)
      ∧ ((program5 9).argId ≠ 0#32 ∧ ∀ j : Fin 12, (program5 9).slots[j].id ≠ (program5 9).argId) := by
  decide

/-- Program 5's table meets the table invariants. -/
theorem program5_tableInv : TableInv (program5 0) :=
  ⟨by decide, by decide, by decide, by decide, by decide⟩

theorem witness_VictimHasLeastKey :
    (4 ≤ (7 : Fin 12).val ∧ (7 : Fin 12) ≠ victim (program5 0).slots) ∧ TableInv (program5 0)
      ∧ 4 ≤ (11 : Fin 12).val ∧ (program5 0).slots[11].id = 0#32 :=
  ⟨by decide, program5_tableInv, by decide, by decide⟩

theorem witness_FrameBeforeDecay :
    (∃ t u, exec .onframe (program5 0x1A2B3C4D) = .next t ∧ exec .decay t = .next u)
      ∧ (program5 0x1A2B3C4D).argId ≠ 0#32
      ∧ (4 ≤ (4 : Fin 12).val ∧ (program5 0x1A2B3C4D).slots[4].id = (program5 0x1A2B3C4D).argId
        ∧ (∀ j : Fin 12, j < 4 → (program5 0x1A2B3C4D).slots[j].id ≠ (program5 0x1A2B3C4D).argId)
        ∧ 1 ≤ (program5 0x1A2B3C4D).slots[4].score.toNat)
      ∧ (∃ t u, exec .onframe (program5 9) = .next t ∧ exec .decay t = .next u) ∧ (program5 9).argId ≠ 0#32
      ∧ ∀ j : Fin 12, (program5 9).slots[j].id ≠ (program5 9).argId :=
  ⟨⟨_, _, onframe_after _, rfl⟩, by decide, by decide, ⟨_, _, onframe_after _, rfl⟩, by decide, by decide⟩

theorem witness_CommandsWriteOnlyTheirRow :
    (∃ t, exec (.classify 30#16) v30 = .next t) ∧ (∃ t, exec .bitdec v30 = .next t)
      ∧ (∃ t, exec .findpre v30 = .next t) ∧ (∃ t, exec .mandec v30 = .next t) ∧ (∃ t, exec .csum v30 = .next t)
      ∧ (∃ t, exec .decode v30 = .next t) ∧ (∃ t, exec .onframe (program5 9) = .next t)
      ∧ (program5 9).argId ≠ 0#32 ∧ (∃ t, exec .onframe (program5 0) = .next t) ∧ (program5 0).argId = 0#32
      ∧ (∃ t, exec .decay (program5 9) = .next t) ∧ (∃ t, exec .view (program5 9) = .next t)
      ∧ ∃ t, exec (.applycfg 1#16) (program5 9) = .next t :=
  ⟨⟨_, rfl⟩, ⟨_, bitdec_after _⟩, ⟨_, findpre_after _⟩, ⟨_, mandec_after _⟩, ⟨_, csum_after _⟩,
    ⟨_, witness_DecodeCountersByResult⟩, ⟨_, onframe_after _⟩, by decide, ⟨_, onframe_after _⟩, by decide,
    ⟨_, rfl⟩, ⟨_, rfl⟩, ⟨_, rfl⟩⟩

theorem witness_SidesDoNotReadEachOther :
    (exec .decode v30 = .next (decodeBits v30.noteTimings.clearDecode) ∧ onDecodeSide .decode = true)
      ∧ (∃ t, exec .onframe (program5 9) = .next t) ∧ onDecodeSide .onframe = false :=
  ⟨⟨rfl, rfl⟩, ⟨_, onframe_after _⟩, rfl⟩

theorem witness_ConfiguredIdsChangeOnlyByApplycfg :
    step (arriving (.read 1#9)) = .next (after (step (arriving (.read 1#9)))) ∧ noResetNext (arriving (.read 1#9))
      ∧ (∀ w rest imm, (arriving (.read 1#9)).port = .write 0#9 w :: rest → decode w ≠ .ok (.applycfg imm))
      ∧ (3 : Fin 12).val < 4 :=
  ⟨rfl, (fun _ h => by cases h), (fun _ _ _ h => by cases h), by decide⟩

/-- A step that runs a command: DECAY on program 5's table. -/
theorem witness_ConfiguredIds_under_decay :
    let s : State := { program5 0 with port := [.write 0#9 9#32] }
    (∃ t, step s = .next t) ∧ noResetNext s ∧ decode 9#32 = .ok .decay :=
  ⟨⟨_, rfl⟩, (fun _ h => by cases h), by decide⟩

theorem witness_CountersNeverDecrease :
    step (arriving (.write 0#9 9#32)) = .next (after (step (arriving (.write 0#9 9#32))))
      ∧ noResetNext (arriving (.write 0#9 9#32))
      ∧ ∀ rest, (arriving (.write 0#9 9#32)).port ≠ .write 0#9 0x00000006#32 :: rest :=
  ⟨rfl, (fun _ h => by cases h), (fun _ h => by simp [arriving] at h)⟩

theorem witness_StickyFlagsOnlyAccumulate :
    let s : State := { program5 0 with port := [.write 0#9 9#32], ovfBit := true, ovfByte := true, cmdErr := true }
    (∃ t, step s = .next t) ∧ noResetNext s ∧ (∃ t, exec .decay s = .next t)
      ∧ s.ovfBit = true ∧ s.ovfByte = true ∧ s.cmdErr = true :=
  ⟨⟨_, rfl⟩, (fun _ h => by cases h), ⟨_, rfl⟩, rfl, rfl, rfl⟩

/-- A state in the middle of a run: program 5's table, a full BITBUF, a validated frame, counts and flags, and a
DECAY arriving. -/
def midRun : State :=
  { program5 0 with
    result := .bitOverflow, ovfBit := true, pulse := [(0, 30#16), (254, 110#16)]
    bitBuf := List.replicate 200 true, byteBuf := v30Payload ++ [0x80#8, 0xFF#8]
    frame := #v[0x1A, 0x2B, 0x3C, 0x4D, 0x5E, 0x6F, 0x70, 0x81, 0x80], frameValid := true
    statMaxTimings := 255#32, statPreamble := 5#32, statCsumOk := 2#32, statCsumFail := 3#32
    tblRes := ⟨5#4, .placed, true⟩, view := #v[0, 1, 2, 3, 4, 5, 6, 7, 8, 9, 10, 11]
    port := [.write 0#9 9#32] }

theorem witness_StepKeepsTableInvariants : TableInv midRun ∧ ∃ t, step midRun = .next t :=
  ⟨⟨by decide, by decide, by decide, by decide, by decide⟩, _, rfl⟩

theorem witness_StepKeepsBufferBounds : BufferInv midRun ∧ ∃ t, step midRun = .next t :=
  ⟨⟨by decide +kernel, by decide, by decide⟩, _, rfl⟩

theorem witness_StepKeepsFrameChecked : FrameInv midRun ∧ ∃ t, step midRun = .next t :=
  ⟨⟨by decide, by decide⟩, _, rfl⟩

theorem witness_StepKeepsCounterBounds : StatsInv midRun ∧ ∃ t, step midRun = .next t :=
  ⟨⟨by decide, by decide⟩, _, rfl⟩

theorem witness_StepKeepsReportsInRange : ReportInv midRun ∧ ∃ t, step midRun = .next t :=
  ⟨⟨by decide, by decide, by decide, by decide, by decide, by decide, by decide, by decide⟩, _, rfl⟩

end Sys2Proof.Tests
end

section
/-!
What a step can do, said once: one constructor per way a step, a command or DECODE can end; and which pieces of
state host writes and commands leave alone.
-/

namespace Sys2Proof.Machine

/-! ## DECODE, by exit (44_frame_decode R105 to R109) -/

/-- The five exits of DECODE from the cleared state `s`, with the state each leaves. -/
inductive DecodeExit (s : State) : State → Prop where
  | bitOverflow {bits : List Bool} (hbits : bitdec s.capture s.startLevel = (bits, true)) :
      DecodeExit s ((s.setBitBuf bits).raise .bitOverflow)
  | noPreamble {bits : List Bool} (hbits : bitdec s.capture s.startLevel = (bits, false))
      (hpre : findpre bits = none) :
      DecodeExit s ((s.setBitBuf bits).raise .noPreamble)
  | byteOverflow {bits : List Bool} {start : Nat} {bytes : List Byte}
      (hbits : bitdec s.capture s.startLevel = (bits, false)) (hpre : findpre bits = some start)
      (hbytes : mandec bits start = (bytes, true)) :
      DecodeExit s (((((s.setBitBuf bits).setSearch true (BitVec.ofNat 8 start)).countPreamble).setByteBuf
        bytes).raise .byteOverflow)
  | checksumFail {bits : List Bool} {start : Nat} {bytes : List Byte}
      (hbits : bitdec s.capture s.startLevel = (bits, false)) (hpre : findpre bits = some start)
      (hbytes : mandec bits start = (bytes, false)) (hcsum : csumValid (bytes.take 9) = false) :
      DecodeExit s ((((((s.setBitBuf bits).setSearch true (BitVec.ofNat 8 start)).countPreamble).setByteBuf
        bytes).countCsumFail).raise .checksumFail)
  | ok {bits : List Bool} {start : Nat} {bytes : List Byte}
      (hbits : bitdec s.capture s.startLevel = (bits, false)) (hpre : findpre bits = some start)
      (hbytes : mandec bits start = (bytes, false)) (hcsum : csumValid (bytes.take 9) = true) :
      DecodeExit s ((((((((s.setBitBuf bits).setSearch true (BitVec.ofNat 8 start)).countPreamble).setByteBuf
        bytes).setCsumOk true).countCsumOk).setFrame (frameOf (bytes.take 9)) true).setResult .ok)

/-- DECODE takes one of its five exits. -/
theorem decodeBits_exit (s : State) : DecodeExit s (decodeBits s) := by
  unfold decodeBits
  split
  next bits hbits => exact .bitOverflow hbits
  next bits hbits =>
    unfold decodeSearch
    split
    next hpre => exact .noPreamble hbits hpre
    next start hpre =>
      unfold decodeBytes
      split
      next bytes hbytes => exact .byteOverflow hbits hpre hbytes
      next bytes hbytes =>
        unfold decodeCheck
        split
        next hcsum => exact .ok hbits hpre hbytes hcsum
        next hcsum => exact .checksumFail hbits hpre hbytes (by simpa using hcsum)

/-! ## The commands, by ending (30_encoding R63, R67) -/

/-- Every way the command `i` can end in the state `s`, with the state it leaves. -/
inductive CommandEffect (s : State) : Instr → State → Prop where
  | classify (d : Duration) : CommandEffect s (.classify d) ((s.setCls (classify d)).setResult .ok)
  | bitdecOverflow {bits : List Bool} (hbits : bitdec s.capture s.startLevel = (bits, true)) :
      CommandEffect s .bitdec ((s.setBitBuf bits).raise .bitOverflow)
  | bitdecOk {bits : List Bool} (hbits : bitdec s.capture s.startLevel = (bits, false)) :
      CommandEffect s .bitdec ((s.setBitBuf bits).setResult .ok)
  | findpreOk {start : Nat} (hpre : findpre s.bitBuf = some start) :
      CommandEffect s .findpre ((s.setSearch true (BitVec.ofNat 8 start)).setResult .ok)
  | findpreNone (hpre : findpre s.bitBuf = none) :
      CommandEffect s .findpre ((s.setSearch false 0#8).raise .noPreamble)
  | mandecOverflow {bytes : List Byte} (hbytes : mandec s.bitBuf s.start.toNat = (bytes, true)) :
      CommandEffect s .mandec ((s.setByteBuf bytes).raise .byteOverflow)
  | mandecOk {bytes : List Byte} (hbytes : mandec s.bitBuf s.start.toNat = (bytes, false)) :
      CommandEffect s .mandec ((s.setByteBuf bytes).setResult .ok)
  | csumOk (hcsum : csumValid s.byteBuf = true) : CommandEffect s .csum ((s.setCsumOk true).setResult .ok)
  | csumFail (hcsum : csumValid s.byteBuf = false) :
      CommandEffect s .csum ((s.setCsumOk false).raise .checksumFail)
  | decode {t : State} (hexit : DecodeExit s.noteTimings.clearDecode t) : CommandEffect s .decode t
  | onframeZero (hid : s.argId = 0#32) :
      CommandEffect s .onframe ((s.setTblRes ⟨0#4, .nothing, false⟩).raise .zeroId)
  | onframeConfigured {i : Fin 12} (hid : s.argId ≠ 0#32)
      (hmatch : matchIn s.slots s.argId configuredSlots = some i) :
      CommandEffect s .onframe (sightSlot i .configured s)
  | onframeExtra {i : Fin 12} (hid : s.argId ≠ 0#32) (hnone : matchIn s.slots s.argId configuredSlots = none)
      (hmatch : matchIn s.slots s.argId extraSlots = some i) :
      CommandEffect s .onframe (sightSlot i .extra s)
  | onframePlaced (hid : s.argId ≠ 0#32) (hconf : matchIn s.slots s.argId configuredSlots = none)
      (hextra : matchIn s.slots s.argId extraSlots = none) :
      CommandEffect s .onframe (placeSlot (victim s.slots) s)
  | decay : CommandEffect s .decay ((s.setSlots (Vector.ofFn fun i => decaySlot i s.slots[i])).setResult .ok)
  | view : CommandEffect s .view ((s.setView (viewOrder s.slots)).setResult .ok)
  | applycfg (imm : BitVec 16) :
      CommandEffect s (.applycfg imm)
        ((s.setSlots (Vector.ofFn fun i => configSlot (validBit imm) s.cfgId i s.slots[i])).setResult .ok)

/-- Every command ends, and in one of the ways of `CommandEffect`. -/
theorem exec_effect (i : Instr) (s : State) : ∃ t, exec i s = .next t ∧ CommandEffect s i t := by
  cases i with
  | classify d => exact ⟨_, rfl, .classify d⟩
  | bitdec =>
    simp only [exec, execBitdec]
    split
    next bits hbits => exact ⟨_, rfl, .bitdecOverflow hbits⟩
    next bits hbits => exact ⟨_, rfl, .bitdecOk hbits⟩
  | findpre =>
    simp only [exec, execFindpre]
    split
    next start hpre => exact ⟨_, rfl, .findpreOk hpre⟩
    next hpre => exact ⟨_, rfl, .findpreNone hpre⟩
  | mandec =>
    simp only [exec, execMandec]
    split
    next bytes hbytes => exact ⟨_, rfl, .mandecOverflow hbytes⟩
    next bytes hbytes => exact ⟨_, rfl, .mandecOk hbytes⟩
  | csum =>
    simp only [exec, execCsum]
    split
    next hcsum => exact ⟨_, rfl, .csumOk hcsum⟩
    next hcsum => exact ⟨_, rfl, .csumFail (by simpa using hcsum)⟩
  | decode => exact ⟨_, rfl, .decode (decodeBits_exit _)⟩
  | onframe =>
    simp only [exec, execOnframe]
    split
    next hid => exact ⟨_, rfl, .onframeZero hid⟩
    next hid =>
      split
      next i hmatch => exact ⟨_, rfl, .onframeConfigured hid hmatch⟩
      next hnone =>
        split
        next i hmatch => exact ⟨_, rfl, .onframeExtra hid hnone hmatch⟩
        next hextra => exact ⟨_, rfl, .onframePlaced hid hnone hextra⟩
  | decay => exact ⟨_, rfl, .decay⟩
  | view => exact ⟨_, rfl, .view⟩
  | applycfg imm => exact ⟨_, rfl, .applycfg imm⟩

/-- The inversion form of `exec_effect`. -/
theorem commandEffect_of_exec {i : Instr} {s t : State} (h : exec i s = .next t) : CommandEffect s i t := by
  obtain ⟨t', ht', heffect⟩ := exec_effect i s
  cases ht'.symm.trans h
  exact heffect

/-! ## The step, by access (20_memory R41, R42; 30_encoding R60) -/

/-- Every way a step can go in the state `s`, with the state it leaves. -/
inductive StepEffect (s : State) : State → Prop where
  | idle (hport : s.port = []) : StepEffect s s
  | read {index : WordIndex} {rest : List PortEvent} (hport : s.port = .read index :: rest) :
      StepEffect s (hostRead index (s.setPort rest))
  | command {w : Word} {rest : List PortEvent} {i : Instr} {t : State}
      (hport : s.port = .write cmdIndex w :: rest) (hdecode : decode w = .ok i)
      (heffect : CommandEffect ((s.setPort rest).setLastOpc (opcodeField w)) i t) :
      StepEffect s t
  | illegal {w : Word} {rest : List PortEvent} {e : Illegal}
      (hport : s.port = .write cmdIndex w :: rest) (hdecode : decode w = .error e) :
      StepEffect s (((s.setPort rest).setLastOpc (opcodeField w)).raise .illegalCmd)
  | write {index : WordIndex} {v : Word} {rest : List PortEvent}
      (hport : s.port = .write index v :: rest) (hindex : index ≠ cmdIndex) :
      StepEffect s (memWrite (s.setPort rest) index v)
  | reset {rest : List PortEvent} (hport : s.port = .reset :: rest) :
      StepEffect s (s.setPort rest).takeReset

/-- Every step ends, and in one of the ways of `StepEffect`. -/
theorem step_effect (s : State) : ∃ t, step s = .next t ∧ StepEffect s t := by
  unfold step takePort
  cases hport : s.port with
  | nil => exact ⟨_, rfl, .idle hport⟩
  | cons e rest =>
    cases e with
    | read index => exact ⟨_, rfl, .read hport⟩
    | reset => exact ⟨_, rfl, .reset hport⟩
    | write index v =>
      by_cases hindex : index = cmdIndex
      · subst hindex
        cases hdecode : decode v with
        | error e => exact ⟨_, by simp [issue, hdecode], .illegal hport hdecode⟩
        | ok i =>
          obtain ⟨t, ht, heffect⟩ := exec_effect i ((s.setPort rest).setLastOpc (opcodeField v))
          exact ⟨t, by simpa [issue, hdecode] using ht, .command hport hdecode heffect⟩
      · exact ⟨_, by simp [hindex], .write hport hindex⟩

/-- The inversion form of `step_effect`. -/
theorem stepEffect_of_step {s t : State} (h : step s = .next t) : StepEffect s t := by
  obtain ⟨t', ht', heffect⟩ := step_effect s
  cases ht'.symm.trans h
  exact heffect

/-! ## What host writes leave alone (20_memory R42) -/

/-- A host write leaves alone whatever no register write changes. -/
theorem memWrite_keeps {α : Type} (f : State → α)
    (hf : ∀ (s : State) (r : Reg) (v : Word), f (writeReg s r v) = f s) (s : State) (index : WordIndex) (v : Word) : f (memWrite s index v) = f s := by
  unfold memWrite
  split
  next r _ => exact hf s r v
  next => rfl

@[simp] theorem memWrite_bitBuf (s : State) (index : WordIndex) (v : Word) :
    (memWrite s index v).bitBuf = s.bitBuf :=
  memWrite_keeps State.bitBuf (fun _ r _ => by cases r <;> rfl) s index v

@[simp] theorem memWrite_byteBuf (s : State) (index : WordIndex) (v : Word) :
    (memWrite s index v).byteBuf = s.byteBuf :=
  memWrite_keeps State.byteBuf (fun _ r _ => by cases r <;> rfl) s index v

/-! ## PULSE is the host's to write (30_encoding R67) -/

theorem DecodeExit.pulse_eq {s t : State} (h : DecodeExit s t) : t.pulse = s.pulse ∧ t.resets = s.resets := by
  cases h <;> simp

/-- No command writes PULSE, nor the number of the reset its unwritten entries stand for. -/
theorem CommandEffect.pulse_eq {s t : State} {i : Instr} (h : CommandEffect s i t) :
    t.pulse = s.pulse ∧ t.resets = s.resets := by
  cases h with
  | decode hexit => simpa using hexit.pulse_eq
  | _ => simp [sightSlot, placeSlot]

end Sys2Proof.Machine
end

section
/-! The capacities of the buffers and the form of the pulse memory (10_state R18, R19; 00_scope R7; log 4). -/

namespace Sys2Proof.Machine

/-! ## The loops stay within the capacities -/

theorem bitdecLoop_length_le (pulses : List Duration) (level : Bool) (bits : List Bool) (h : bits.length ≤ 200) :
    (bitdecLoop pulses level bits).1.length ≤ 200 := by
  induction pulses generalizing level bits with
  | nil => exact h
  | cons d rest ih =>
    have happend : (appendLevel (classify d).reps level bits).1.length ≤ 200 := by
      rw [appendLevel_eq _ _ _ h]
      exact List.length_take_le _ _
    rw [bitdecLoop]
    split
    next bits' heq => simpa [heq] using happend
    next bits' heq => exact ih _ _ (by simpa [heq] using happend)

theorem bitdec_length_le {pulses : List Duration} {level overflow : Bool} {bits : List Bool}
    (h : bitdec pulses level = (bits, overflow)) : bits.length ≤ 200 := by
  have hle := bitdecLoop_length_le pulses level [] (Nat.zero_le _)
  rwa [← bitdec, h] at hle

theorem mandecLoop_length_le (n : Nat) (rest : List Bool) (bytes : List Byte) (h : bytes.length ≤ 10) :
    (mandecLoop n rest bytes).1.length ≤ 10 := by
  induction n generalizing rest bytes with
  | zero => exact h
  | succ n ih =>
    rw [mandecLoop]
    split
    next => exact h
    next bytes' heq =>
      obtain ⟨hlt, rfl⟩ := append_eq_some.mp heq
      simp only [Config.byteCap] at hlt
      exact ih _ _ (by simp; omega)

theorem mandec_length_le {bits : List Bool} {start : Nat} {overflow : Bool} {bytes : List Byte}
    (h : mandec bits start = (bytes, overflow)) : bytes.length ≤ 10 := by
  have hle := mandecLoop_length_le ((bits.length - start) / 16) (bits.drop start) [] (Nat.zero_le _)
  rwa [← mandec, h] at hle

/-! ## Every step keeps the bounds -/

/-- The invariant looks at BITBUF, BYTEBUF and PULSE only. -/
theorem BufferInv.of_eq {s t : State} (h : BufferInv s) (hbits : t.bitBuf = s.bitBuf)
    (hbytes : t.byteBuf = s.byteBuf) (hpulse : t.pulse = s.pulse) : BufferInv t :=
  ⟨hbits ▸ h.bits, hbytes ▸ h.bytes, hpulse ▸ h.pulses⟩

theorem bufferInv_reset : BufferInv State.reset := ⟨Nat.zero_le _, Nat.zero_le _, wf_reset⟩

/-- DECODE leaves BITBUF as `bitdec` made it, and BYTEBUF as it was cleared or as `mandec` made it. -/
theorem DecodeExit.length_le {s t : State} (h : DecodeExit s t) (hbytes : s.byteBuf.length ≤ 10) :
    t.bitBuf.length ≤ 200 ∧ t.byteBuf.length ≤ 10 := by
  cases h with
  | bitOverflow hbits => exact ⟨bitdec_length_le hbits, hbytes⟩
  | noPreamble hbits _ => exact ⟨bitdec_length_le hbits, hbytes⟩
  | byteOverflow hbits _ hmandec => exact ⟨bitdec_length_le hbits, mandec_length_le hmandec⟩
  | checksumFail hbits _ hmandec _ => exact ⟨bitdec_length_le hbits, mandec_length_le hmandec⟩
  | ok hbits _ hmandec _ => exact ⟨bitdec_length_le hbits, mandec_length_le hmandec⟩

theorem CommandEffect.keeps_bufferInv {s t : State} {i : Instr} (h : CommandEffect s i t) (hs : BufferInv s) :
    BufferInv t := by
  have hpulses : Memory.wf t.pulse = true := by
    rw [h.pulse_eq.1]
    exact hs.pulses
  cases h with
  | bitdecOverflow hbits => exact ⟨bitdec_length_le hbits, hs.bytes, hpulses⟩
  | bitdecOk hbits => exact ⟨bitdec_length_le hbits, hs.bytes, hpulses⟩
  | mandecOverflow hbytes => exact ⟨hs.bits, mandec_length_le hbytes, hpulses⟩
  | mandecOk hbytes => exact ⟨hs.bits, mandec_length_le hbytes, hpulses⟩
  | decode hexit =>
    obtain ⟨hbits, hbytes⟩ := hexit.length_le (Nat.zero_le _)
    exact ⟨hbits, hbytes, hpulses⟩
  | _ => refine hs.of_eq ?_ ?_ ?_ <;> simp [sightSlot, placeSlot]

/-- The one host write that touches PULSE is a store at an index below 255. -/
theorem wf_writeReg (s : State) (r : Reg) (v : Word) (h : Memory.wf s.pulse = true) :
    Memory.wf (writeReg s r v).pulse = true := by
  cases r with
  | pulse k => exact wf_store s.pulse _ k.isLt h
  | _ => exact h

theorem wf_memWrite (s : State) (index : WordIndex) (v : Word) (h : Memory.wf s.pulse = true) :
    Memory.wf (memWrite s index v).pulse = true := by
  unfold memWrite
  split
  next r _ => exact wf_writeReg s r v h
  next => exact h

/-- Settles O56, by the ways a step can go. -/
theorem stepKeepsBufferBounds : Obligations.StepKeepsBufferBounds := by
  intro s t hs hstep
  cases stepEffect_of_step hstep with
  | idle _ => exact hs
  | read _ => refine hs.of_eq ?_ ?_ ?_ <;> simp [hostRead]
  | command _ _ heffect => refine heffect.keeps_bufferInv (hs.of_eq ?_ ?_ ?_) <;> simp
  | illegal _ _ => refine hs.of_eq ?_ ?_ ?_ <;> simp
  | write _ _ => exact ⟨by simpa using hs.bits, by simpa using hs.bytes, wf_memWrite _ _ _ hs.pulses⟩
  | reset _ => exact bufferInv_reset.of_eq rfl rfl rfl

end Sys2Proof.Machine
end

section
/-!
The address map read both ways, and the layout of the packed registers: fields, bytes and single bits of a word
(20_memory R40 to R46; 00_scope R6).
-/

namespace Sys2Proof.Machine

/-! ## The address map -/

theorem offset_of_slotFieldAt {n : Nat} {f : SlotField} (h : slotFieldAt n = some f) : f.offset = 4 * n := by
  unfold slotFieldAt at h
  split at h <;> cases h <;> rfl

theorem slotFieldAt_offset (f : SlotField) : slotFieldAt (f.offset / 4) = some f := by
  cases f <;> rfl

theorem offset_of_lowRegAt {n : Nat} {r : Reg} (h : lowRegAt n = some r) : r.offset = 4 * n := by
  unfold lowRegAt at h
  split at h <;> cases h <;> rfl

/-- A mapped word index is the byte offset of its register over 4. -/
theorem offset_of_regAt {index : WordIndex} {r : Reg} (h : regAt index = some r) : r.offset = 4 * index.toNat := by
  unfold regAt at h
  split at h
  next hpulse =>
    cases h
    simp only [Reg.offset]
    omega
  next =>
    split at h
    next hslot =>
      obtain ⟨f, hf, rfl⟩ := Option.map_eq_some_iff.mp h
      have hoffset := offset_of_slotFieldAt hf
      simp only [Reg.offset]
      omega
    next => exact offset_of_lowRegAt h

theorem index_of_regAt {index : WordIndex} {r : Reg} (h : regAt index = some r) : r.index = index := by
  rw [Reg.index, offset_of_regAt h, Nat.mul_div_cancel_left _ (by decide), BitVec.ofNat_toNat, BitVec.setWidth_eq]

theorem SlotField.offset_lt (f : SlotField) : f.offset < 24 := by
  cases f <;> decide

theorem regAt_index_slot (i : Fin 12) (f : SlotField) : regAt (Reg.slot i f).index = some (.slot i f) := by
  have hf := f.offset_lt
  have hword : (Reg.slot i f).index.toNat = 64 + 8 * i.val + f.offset / 4 := by
    simp only [Reg.index, Reg.offset, BitVec.toNat_ofNat]
    omega
  have hslot : (64 + 8 * i.val + f.offset / 4 - 64) / 8 = i.val := by omega
  have hfield : (64 + 8 * i.val + f.offset / 4 - 64) % 8 = f.offset / 4 := by omega
  simp only [regAt, hword, hslot, hfield, slotFieldAt_offset]
  rw [dif_neg (by omega), dif_pos (by omega)]
  rfl

theorem regAt_index_pulse (k : Fin 255) : regAt (Reg.pulse k).index = some (.pulse k) := by
  have hword : (Reg.pulse k).index.toNat = 256 + k.val := by
    simp only [Reg.index, Reg.offset, BitVec.toNat_ofNat]
    omega
  simp only [regAt, hword]
  rw [dif_pos (by omega)]
  simp

/-- The map finds every register at its own word index. -/
theorem regAt_index (r : Reg) : regAt r.index = some r := by
  cases r with
  | slot i f => exact regAt_index_slot i f
  | pulse k => exact regAt_index_pulse k
  | frame j => revert j; decide
  | cfgId j => revert j; decide
  | view j => revert j; decide
  | bytes j => revert j; decide
  | bits j => revert j; decide
  | _ => rfl

/-- A read at a register's word index reads that register. -/
@[simp] theorem memRead_index (s : State) (r : Reg) : memRead s r.index = readReg s r := by
  simp only [memRead, regAt_index]

/-! ## Fields of a word -/

theorem field_zero {n : Nat} (v : BitVec n) : field v 0 = v.zeroExtend 32 := by
  simp [field]

theorem getLsbD_field {n : Nat} (v : BitVec n) (lo p : Nat) :
    (field v lo).getLsbD p = (decide (p < 32) && (decide (lo ≤ p) && v.getLsbD (p - lo))) := by
  by_cases hp : p < 32 <;> by_cases hlo : lo ≤ p <;> simp [field, hp, hlo]

/-- Reading a field back from where it was placed. -/
theorem extractLsb'_field_same {n : Nat} (v : BitVec n) {lo : Nat} (h : lo + n ≤ 32) :
    (field v lo).extractLsb' lo n = v := by
  apply BitVec.eq_of_getLsbD_eq
  intro p hp
  rw [BitVec.getLsbD_extractLsb', getLsbD_field]
  simp [hp, show lo + p < 32 by omega]

/-- A field is zero outside its own bits. -/
theorem extractLsb'_field_disjoint {n : Nat} (v : BitVec n) {lo start len : Nat}
    (h : start + len ≤ lo ∨ lo + n ≤ start) : (field v lo).extractLsb' start len = 0 := by
  apply BitVec.eq_of_getLsbD_eq
  intro p hp
  rw [BitVec.getLsbD_extractLsb', getLsbD_field]
  rcases h with hbelow | habove
  · simp [show ¬ lo ≤ start + p by omega]
  · simp [BitVec.getLsbD_of_ge v (start + p - lo) (by omega)]

/-- A bit outside a field is zero. -/
theorem getLsbD_field_disjoint {n : Nat} (v : BitVec n) {lo p : Nat} (h : p < lo ∨ lo + n ≤ p) :
    (field v lo).getLsbD p = false := by
  rw [getLsbD_field]
  rcases h with hbelow | habove
  · simp [show ¬ lo ≤ p by omega]
  · simp [BitVec.getLsbD_of_ge v (p - lo) (by omega)]

/-- Reading a one-bit field back from where it was placed. -/
theorem getLsbD_field_ofBool (b : Bool) {lo : Nat} (h : lo < 32) : (field (BitVec.ofBool b) lo).getLsbD lo = b := by
  rw [getLsbD_field]
  cases b <;> simp [h]

theorem boolWord_eq (b : Bool) : boolWord b = if b then 1#32 else 0#32 := by
  cases b <;> rfl

theorem getLsbD_boolWord (b : Bool) (p : Nat) : (boolWord b).getLsbD p = (decide (p = 0) && b) := by
  cases p with
  | zero => simpa [boolWord] using getLsbD_field_ofBool b (lo := 0) (by decide)
  | succ p => simpa [boolWord] using getLsbD_field_disjoint (BitVec.ofBool b) (lo := 0) (p := p + 1) (.inr (by omega))

/-- A zero field adds nothing to a word. -/
@[simp] theorem field_of_zero {n : Nat} (lo : Nat) : field 0#n lo = 0#32 := by
  simp [field]

/-! ## The fields of STATUS and TBLRES (10_state R14, R29) -/

/-- Each field of STATUS is read back where it was placed, and the bits between them are zero. -/
theorem statusWord_fields (s : State) :
    (statusWord s).extractLsb' 0 4 = s.result.code ∧ (statusWord s).extractLsb' 4 4 = 0#4
      ∧ (statusWord s).extractLsb' 8 8 = s.lastOpc ∧ (statusWord s).getLsbD 16 = s.ovfBit
      ∧ (statusWord s).getLsbD 17 = s.ovfByte ∧ (statusWord s).getLsbD 18 = s.cmdErr
      ∧ (statusWord s).extractLsb' 19 13 = 0#13 := by
  simp [statusWord, BitVec.extractLsb'_or, extractLsb'_field_same, extractLsb'_field_disjoint,
    getLsbD_field_disjoint, getLsbD_field_ofBool, -BitVec.getLsbD_eq_getElem]

/-- Each field of TBLRES is read back where it was placed, and the bits above them are zero. -/
theorem tblResWord_fields (t : TableResult) :
    (tblResWord t).extractLsb' 0 4 = t.slot ∧ (tblResWord t).extractLsb' 4 2 = t.kind.code
      ∧ (tblResWord t).getLsbD 6 = t.evict ∧ (tblResWord t).extractLsb' 7 25 = 0#25 := by
  simp [tblResWord, BitVec.extractLsb'_or, extractLsb'_field_same, extractLsb'_field_disjoint,
    getLsbD_field_disjoint, getLsbD_field_ofBool, -BitVec.getLsbD_eq_getElem]

/-! ## Bytes, nibbles and bits of the packed windows (20_memory R45, R46) -/

/-- Byte `p` of a packed word, the first most significant. -/
theorem extractLsb'_packBytes (f : Nat → Byte) {p : Nat} (hp : p < 4) :
    (packBytes (f 0) (f 1) (f 2) (f 3)).extractLsb' (24 - 8 * p) 8 = f p := by
  match p, hp with
  | 0, _ | 1, _ | 2, _ | 3, _ =>
    simp [packBytes, BitVec.extractLsb'_or, extractLsb'_field_same, extractLsb'_field_disjoint]

/-- BYTES[j]: the window stops at BYTELEN and at the tenth byte. -/
theorem extractLsb'_bytesWord (bytes : List Byte) (j : Nat) {p : Nat} (hp : p < 4) :
    (bytesWord bytes j).extractLsb' (24 - 8 * p) 8
      = if 4 * j + p < 10 then bytes.getD (4 * j + p) 0#8 else 0#8 := by
  rw [bytesWord, extractLsb'_packBytes (fun k => (bytes.take Config.byteCap).getD (4 * j + k) 0#8) hp]
  by_cases h : 4 * j + p < 10 <;> simp [List.getD_eq_getElem?_getD, h]

theorem extractLsb'_frameWord (f : Vector Byte 9) (j : Fin 3) {p : Nat} (hp : p < 4) :
    (frameWord f j).extractLsb' (24 - 8 * p) 8 = f.toList.getD (4 * j.val + p) 0#8 :=
  extractLsb'_packBytes (fun k => f.toList.getD (4 * j.val + k) 0#8) hp

/-- Entry `k` of a VIEW register, the first least significant. -/
theorem extractLsb'_viewWord (v : Vector (BitVec 4) 12) (j : Fin 2) {k : Nat} (hk : k < 8) :
    (viewWord v j).extractLsb' (4 * k) 4 = v.toList.getD (8 * j.val + k) 0#4 := by
  match k, hk with
  | 0, _ | 1, _ | 2, _ | 3, _ | 4, _ | 5, _ | 6, _ | 7, _ =>
    simp [viewWord, BitVec.extractLsb'_or, extractLsb'_field_same, extractLsb'_field_disjoint]

/-- Shifting in the bits `f 0, f 1, ..., f (n - 1)` puts the last one in bit 0. -/
theorem getLsbD_foldl_shiftIn (f : Nat → Bool) (n : Nat) {q : Nat} (hq : q < 32) :
    ((List.range n).foldl (fun (w : Word) r => (w <<< 1) ||| boolWord (f r)) 0#32).getLsbD q
      = (decide (q < n) && f (n - 1 - q)) := by
  induction n generalizing q with
  | zero => simp
  | succ n ih =>
    rw [List.range_succ, List.foldl_append]
    simp only [List.foldl_cons, List.foldl_nil, BitVec.getLsbD_or, BitVec.getLsbD_shiftLeft, getLsbD_boolWord]
    cases q with
    | zero => simp
    | succ q => simp [ih (by omega : q < 32), hq, show n - (q + 1) = n - 1 - q by omega]

/-- BITS[j]: the window stops at BITLEN and at bit 200. -/
theorem getLsbD_bitsWord (bits : List Bool) (j : Nat) {p : Nat} (hp : p < 32) :
    (bitsWord bits j).getLsbD (31 - p) = (decide (32 * j + p < 200) && bits.getD (32 * j + p) false) := by
  rw [bitsWord, getLsbD_foldl_shiftIn (fun r => (bits.take Config.bitCap).getD (32 * j + r) false) 32 (by omega),
    show 32 - 1 - (31 - p) = p by omega]
  by_cases h : 32 * j + p < 200 <;>
    simp [List.getD_eq_getElem?_getD, h, show 31 - p < 32 by omega]

theorem bitsWord_nil (j : Nat) : bitsWord [] j = 0#32 := by
  apply BitVec.eq_of_getLsbD_eq
  intro q hq
  rw [show q = 31 - (31 - q) by omega, getLsbD_bitsWord [] j (by omega)]
  simp

end Sys2Proof.Machine
end

section
/-! What the host reads from the registers (10_state R14 to R30). -/

namespace Sys2Proof.Machine

/-- Settles O12, by the position of a bit in the window. -/
theorem bitsWindowReadsBitbuf : Obligations.BitsWindowReadsBitbuf := by
  intro s j p hp
  rw [memRead_index]
  exact getLsbD_bitsWord s.bitBuf j.val hp

/-- Settles O13, by the position of a byte in the window. -/
theorem bytesWindowReadsBytebuf : Obligations.BytesWindowReadsBytebuf := by
  intro s j p hp
  rw [memRead_index]
  exact extractLsb'_bytesWord s.byteBuf j.val hp

/-- Settles O14, field by field: each is read back where it was placed, the others are zero there. -/
theorem statusRegisterFields : Obligations.StatusRegisterFields := by
  intro s
  obtain ⟨hcode, hrest⟩ := statusWord_fields s
  simp only [memRead_index, readReg]
  exact ⟨hcode.trans (by cases s.result <;> rfl), hrest⟩

/-- Settles O15, by the position of an entry in its register; the upper half of VIEW1 is past entry 11. -/
theorem viewRegistersPackEntries : Obligations.ViewRegistersPackEntries := by
  intro s
  simp only [memRead_index, readReg]
  refine ⟨fun k => ?_, fun k => ?_, ?_⟩
  · rw [extractLsb'_viewWord s.view 0 k.isLt]
    simp [List.getD_eq_getElem?_getD, show k.val < 12 by omega]
  · rw [extractLsb'_viewWord s.view 1 (by omega : k.val < 8)]
    simp [List.getD_eq_getElem?_getD, show 8 + k.val < 12 by omega]
  · simp [viewWord, BitVec.extractLsb'_or, extractLsb'_field_disjoint]

/-- Settles O16, by the position of a byte in its register; the low bytes of FRAME2 are past byte 8. -/
theorem frameRegistersPackBytes : Obligations.FrameRegistersPackBytes := by
  intro s
  simp only [memRead_index, readReg]
  refine ⟨fun j p => ?_, ?_, ?_⟩
  · rw [extractLsb'_frameWord s.frame _ p.isLt]
    simp [List.getD_eq_getElem?_getD, show 4 * j.val + p.val < 9 by omega]
  · have h := extractLsb'_frameWord s.frame 2 (p := 0) (by decide)
    simpa [List.getD_eq_getElem?_getD] using h
  · simp [frameWord, packBytes, extractLsb'_field_disjoint]

/-- Settles O17, field by field. -/
theorem tblresRegisterFields : Obligations.TblresRegisterFields := by
  intro s
  obtain ⟨hslot, hkind, hrest⟩ := tblResWord_fields s.tblRes
  simp only [memRead_index, readReg]
  exact ⟨hslot, hkind.trans (by cases s.tblRes.kind <;> rfl), hrest⟩

/-- Settles O18: a register with one field reads as that field, zero-extended. -/
theorem plainRegistersReadTheirValue : Obligations.PlainRegistersReadTheirValue := by
  intro s
  simp only [memRead_index, readReg, slotWord, boolWord_eq, field_zero, and_self, and_true, true_and, implies_true]
  cases s.cls <;> rfl

/-- Settles O19, by the cases of `slotState`. -/
theorem slotStateReadsDerivedState : Obligations.SlotStateReadsDerivedState := by
  intro s i
  simp only [memRead_index, readReg, slotWord, slotState, Config.nConfigured]
  by_cases hid : s.slots[i].id = 0#32
  · simp only [hid, if_true]
    rfl
  · by_cases hconf : i.val < 4
    · have hextra : ¬ 4 ≤ i.val := by omega
      by_cases hscore : s.slots[i].score = 0#8 <;> simp only [hid, hconf, hextra, hscore, if_true, if_false] <;> rfl
    · have hextra : 4 ≤ i.val := by omega
      simp only [hid, hconf, hextra, if_true, if_false]
      rfl

/-! ## Reset (10_state R30) -/

/-- Of what the host reads, a reset event leaves what power-on leaves, PULSE apart. -/
theorem readReg_takeReset (s : State) (r : Reg) (hr : ∀ k, r ≠ .pulse k) :
    readReg s.takeReset r = readReg State.reset r := by
  cases r with
  | pulse k => exact absurd rfl (hr k)
  | _ => rfl

theorem readReg_reset (r : Reg) (hr : ∀ k, r ≠ .pulse k) : readReg State.reset r = 0#32 := by
  cases r with
  | pulse k => exact absurd rfl (hr k)
  | slot i f =>
    have hslot : State.reset.slots[i] = Slot.empty := by simp [State.reset]
    simp only [readReg, hslot]
    cases f <;> rfl
  | cfgId j => simp [readReg, State.reset]
  | frame j => simp [readReg, State.reset, frameWord, packBytes, -List.reduceReplicate]
  | view j => simp [readReg, State.reset, viewWord, -List.reduceReplicate]
  | bytes j => simp [readReg, State.reset, bytesWord, packBytes]
  | bits j => exact bitsWord_nil j.val
  | _ => rfl

/-- The word indices of PULSE are 256 to 510 (20_memory R43). -/
theorem pulse_index_range {index : WordIndex} {k : Fin 255} (h : regAt index = some (.pulse k)) :
    256 ≤ index.toNat ∧ index.toNat < 511 := by
  have hoffset := offset_of_regAt h
  simp only [Reg.offset] at hoffset
  omega

/-- Outside PULSE the map reads zero in a state whose registers, PULSE apart, read zero. -/
theorem memRead_eq_zero {t : State} (ht : ∀ r, (∀ k, r ≠ .pulse k) → readReg t r = 0#32) (index : WordIndex)
    (hindex : index.toNat < 256 ∨ index.toNat = 511) : memRead t index = 0#32 := by
  unfold memRead
  split
  next r hr =>
    refine ht r fun k hk => ?_
    have hrange := pulse_index_range (hk ▸ hr)
    omega
  next => rfl

/-- Settles O20: a reset event leaves the block's state of power-on, which is zero field by field. -/
theorem resetClearsTheBlock : Obligations.ResetClearsTheBlock := by
  intro s t ht
  have hread : ∀ r, (∀ k, r ≠ .pulse k) → readReg t r = 0#32 := by
    intro r hr
    rcases ht with rfl | rfl
    · exact readReg_reset r hr
    · exact (readReg_takeReset s r hr).trans (readReg_reset r hr)
  have hzero := memRead_eq_zero hread
  rcases ht with rfl | rfl
  · simpa [State.reset, Slot.empty] using hzero
  · simpa [takeReset_eq, State.reset, Slot.empty] using hzero

end Sys2Proof.Machine
end

section
/-! PULSE between host writes (10_state R17). -/

namespace Sys2Proof.Machine

/-- An entry of PULSE depends on the entries written and on the number of the reset only. -/
theorem pulseAt_congr {s t : State} (h : t.pulse = s.pulse ∧ t.resets = s.resets) (k : Nat) :
    t.pulseAt k = s.pulseAt k := by
  obtain ⟨hpulse, hresets⟩ := h
  rw [State.pulseAt, State.pulseAt, hpulse, hresets]

theorem writeReg_pulseAt {r : Reg} {k : Fin 255} (hr : r ≠ .pulse k) (s : State) (v : Word) :
    (writeReg s r v).pulseAt k.val = s.pulseAt k.val := by
  cases r with
  | pulse j =>
    have hkj : k.val ≠ j.val := fun h => hr (congrArg Reg.pulse (Fin.ext h).symm)
    simp only [State.pulseAt, writeReg, lookup_store_other s.pulse _ hkj]
  | _ => rfl

/-- A host write at another index leaves an entry of PULSE alone. -/
theorem memWrite_pulseAt {index : WordIndex} {k : Fin 255} (hindex : index ≠ (Reg.pulse k).index) (s : State)
    (v : Word) : (memWrite s index v).pulseAt k.val = s.pulseAt k.val := by
  unfold memWrite
  split
  next r hr =>
    refine writeReg_pulseAt (fun hpulse => hindex ?_) s v
    rw [← index_of_regAt hr, hpulse]
  next => rfl

/-- Settles O23, by the ways a step can go: of those left, only a host write reaches PULSE, at another entry. -/
theorem pulseEntryKeepsItsValue : Obligations.PulseEntryKeepsItsValue := by
  intro s t k hstep hreset hwrite
  cases stepEffect_of_step hstep with
  | idle _ => rfl
  | read _ => exact pulseAt_congr (by simp [hostRead]) _
  | command _ _ heffect => exact (pulseAt_congr heffect.pulse_eq _).trans (pulseAt_congr (by simp) _)
  | illegal _ _ => exact pulseAt_congr (by simp) _
  | @write index v rest hport _ =>
    have hother : index ≠ (Reg.pulse k).index := fun hindex => hwrite v rest (hindex ▸ hport)
    exact (memWrite_pulseAt hother _ _).trans (pulseAt_congr (by simp) _)
  | reset hport => exact absurd hport (hreset _)

end Sys2Proof.Machine
end

section
/-! The decoder answers a command for that command's word only (30_encoding R61 to R64). -/

namespace Sys2Proof.Machine

/-- A word is the fields the decoder cuts it into. -/
theorem word_eq_fields (w : Word) :
    w = field (opcodeField w) 0 ||| field (immField w) 8 ||| field (zeroField w) 24 := by
  apply BitVec.eq_of_getLsbD_eq
  intro p hp
  simp only [BitVec.getLsbD_or, getLsbD_field, opcodeField, immField, zeroField, BitVec.getLsbD_extractLsb']
  rcases (by omega : p < 8 ∨ (8 ≤ p ∧ p < 24) ∨ 24 ≤ p) with hopc | ⟨himm, himm'⟩ | hzero
  · simp [hp, hopc, show ¬ 8 ≤ p by omega, show ¬ 24 ≤ p by omega]
  · simp [hp, himm, show ¬ p < 8 by omega, show ¬ 24 ≤ p by omega, show p - 8 < 16 by omega,
      show 8 + (p - 8) = p by omega]
  · simp [hp, hzero, show ¬ p < 8 by omega, show ¬ p - 8 < 16 by omega, show p - 24 < 8 by omega,
      show 24 + (p - 24) = p by omega]

theorem opcode_of_plainCommand {opc : Byte} {i : Instr} (h : plainCommand opc = some i) :
    opcode i = opc ∧ immediate i = 0#16 := by
  unfold plainCommand at h
  repeat' split at h
  all_goals cases h
  all_goals exact ⟨Eq.symm ‹_›, rfl⟩

/-- The fields of a word the decoder accepts are those of the command it answers. -/
theorem fields_of_decode {w : Word} {i : Instr} (h : decode w = .ok i) :
    zeroField w = 0#8 ∧ opcode i = opcodeField w ∧ immediate i = immField w := by
  unfold decode at h
  split at h
  next => cases h
  next hzero =>
    refine ⟨not_not.mp hzero, ?_⟩
    split at h
    next hopc => cases h; exact ⟨hopc.symm, rfl⟩
    next =>
      split at h
      next hopc =>
        split at h
        · cases h; exact ⟨hopc.symm, rfl⟩
        · cases h
      next =>
        split at h
        next => cases h
        next i' hplain =>
          split at h
          next himm =>
            cases h
            obtain ⟨hopc, hzeroImm⟩ := opcode_of_plainCommand hplain
            exact ⟨hopc, hzeroImm.trans himm.symm⟩
          next => cases h

/-- The one word of a command is its encoding. -/
theorem eq_encode_of_decode {w : Word} {i : Instr} (h : decode w = .ok i) : w = encode i := by
  obtain ⟨hzero, hopc, himm⟩ := fields_of_decode h
  rw [word_eq_fields w, hzero, ← hopc, ← himm, field_of_zero, BitVec.or_zero, encode]

end Sys2Proof.Machine
end

section
/-! The four counters (10_state R22). -/

namespace Sys2Proof.Machine

/-- The four counters of `t` are those of `s`. -/
abbrev SameCounters (s t : State) : Prop :=
  t.statMaxTimings = s.statMaxTimings ∧ t.statPreamble = s.statPreamble
    ∧ t.statCsumOk = s.statCsumOk ∧ t.statCsumFail = s.statCsumFail

/-- No counter of `t` is smaller than in `s`. -/
abbrev CountersLe (s t : State) : Prop :=
  s.statMaxTimings.toNat ≤ t.statMaxTimings.toNat ∧ s.statPreamble.toNat ≤ t.statPreamble.toNat
    ∧ s.statCsumOk.toNat ≤ t.statCsumOk.toNat ∧ s.statCsumFail.toNat ≤ t.statCsumFail.toNat

theorem SameCounters.le {s t : State} (h : SameCounters s t) : CountersLe s t := by
  obtain ⟨hmax, hpre, hok, hfail⟩ := h
  simp [CountersLe, hmax, hpre, hok, hfail]

theorem SameCounters.trans {s t u : State} (hst : SameCounters s t) (htu : SameCounters t u) : SameCounters s u := by
  obtain ⟨hmax, hpre, hok, hfail⟩ := hst
  obtain ⟨hmax', hpre', hok', hfail'⟩ := htu
  exact ⟨hmax'.trans hmax, hpre'.trans hpre, hok'.trans hok, hfail'.trans hfail⟩

theorem le_satAdd32 (a : Word) (b : Nat) : a.toNat ≤ (satAdd32 a b).toNat := by
  rw [satAdd32_toNat]
  omega

theorem noteTimings_toNat (s : State) :
    s.noteTimings.statMaxTimings.toNat = max s.statMaxTimings.toNat s.count.toNat := by
  have hcount := s.count.isLt
  rw [noteTimings_statMaxTimings, BitVec.toNat_ofNat, Nat.mod_eq_of_lt]
  omega

theorem memWrite_sameCounters (s : State) (index : WordIndex) (v : Word) : SameCounters s (memWrite s index v) :=
  ⟨memWrite_keeps State.statMaxTimings (fun _ r _ => by cases r <;> rfl) s index v,
    memWrite_keeps State.statPreamble (fun _ r _ => by cases r <;> rfl) s index v,
    memWrite_keeps State.statCsumOk (fun _ r _ => by cases r <;> rfl) s index v,
    memWrite_keeps State.statCsumFail (fun _ r _ => by cases r <;> rfl) s index v⟩

/-- From the cleared state on, DECODE only adds to the counters. -/
theorem DecodeExit.countersLe {s t : State} (h : DecodeExit s t) : CountersLe s t := by
  cases h <;> simp [CountersLe, le_satAdd32]

/-- DECODE notes the timings, and then only adds. -/
theorem DecodeExit.countersLe_of_noteTimings {s t : State} (h : DecodeExit s.noteTimings.clearDecode t) :
    CountersLe s t := by
  obtain ⟨hmax, hpre, hok, hfail⟩ := h.countersLe
  simp only [clearDecode_statMaxTimings, clearDecode_statPreamble, clearDecode_statCsumOk, clearDecode_statCsumFail,
    noteTimings_toNat, noteTimings_statPreamble, noteTimings_statCsumOk, noteTimings_statCsumFail]
    at hmax hpre hok hfail
  exact ⟨(Nat.le_max_left _ _).trans hmax, hpre, hok, hfail⟩

/-- A command other than DECODE changes no counter. -/
theorem CommandEffect.sameCounters {s t : State} {i : Instr} (h : CommandEffect s i t) (hi : i ≠ .decode) :
    SameCounters s t := by
  cases h with
  | decode _ => exact absurd rfl hi
  | _ => simp [SameCounters, sightSlot, placeSlot]

theorem CommandEffect.countersLe {s t : State} {i : Instr} (h : CommandEffect s i t) : CountersLe s t := by
  cases h with
  | decode hexit => exact hexit.countersLe_of_noteTimings
  | _ => simp [CountersLe, sightSlot, placeSlot]

/-- Whatever the step is, the counters stay as they are unless it runs DECODE, and then none gets smaller. -/
theorem StepEffect.counters {s t : State} (h : StepEffect s t) (hreset : noResetNext s) :
    SameCounters s t ∨ (CountersLe s t ∧ ∃ rest, s.port = .write 0#9 0x00000006#32 :: rest) := by
  cases h with
  | idle _ => exact .inl ⟨rfl, rfl, rfl, rfl⟩
  | read _ => exact .inl (by simp [SameCounters, hostRead])
  | @command w rest i _ hport hdecode heffect =>
    by_cases hi : i = .decode
    · subst hi
      have hw : w = 0x00000006#32 := eq_encode_of_decode hdecode
      exact .inr ⟨by simpa [CountersLe] using heffect.countersLe, rest, hw ▸ hport⟩
    · exact .inl (by simpa [SameCounters] using heffect.sameCounters hi)
  | illegal _ _ => exact .inl (by simp [SameCounters])
  | write _ _ => exact .inl (SameCounters.trans (by simp [SameCounters]) (memWrite_sameCounters _ _ _))
  | reset hport => exact absurd hport (hreset _)

/-- Settles O53, by the ways a step can go. -/
theorem countersNeverDecrease : Obligations.CountersNeverDecrease := by
  intro s t hstep hreset
  rcases (stepEffect_of_step hstep).counters hreset with hsame | ⟨hle, rest, hdecode⟩
  · exact ⟨hsame.le, fun _ => hsame⟩
  · exact ⟨hle, fun hother => absurd hdecode (hother rest)⟩

end Sys2Proof.Machine
end

section
/-! Single port accesses: what a step does with each (20_memory R41, R42, R50; 70_reset_and_hazards R150, R151). -/

namespace Sys2Proof.Machine

theorem step_read {s : State} {index : WordIndex} {rest : List PortEvent} (hport : s.port = .read index :: rest) :
    step s = .next (hostRead index (s.setPort rest)) := by
  simp [step, takePort, hport]

theorem step_command {s : State} {w : Word} {rest : List PortEvent} (hport : s.port = .write cmdIndex w :: rest) :
    step s = issue w (s.setPort rest) := by
  simp [step, takePort, hport]

theorem step_write {s : State} {index : WordIndex} {v : Word} {rest : List PortEvent} (hindex : index ≠ cmdIndex)
    (hport : s.port = .write index v :: rest) : step s = .next (memWrite (s.setPort rest) index v) := by
  simp [step, takePort, hport, hindex]

theorem step_reset {s : State} {rest : List PortEvent} (hport : s.port = .reset :: rest) :
    step s = .next (s.setPort rest).takeReset := by
  simp [step, takePort, hport]

theorem step_idle {s : State} (hport : s.port = []) : step s = .next s := by
  simp [step, takePort, hport]

/-- No register shows the accesses still to arrive. -/
theorem readReg_setPort (s : State) (rest : List PortEvent) (r : Reg) : readReg (s.setPort rest) r = readReg s r := by
  cases r <;> rfl

theorem memRead_setPort (s : State) (rest : List PortEvent) (index : WordIndex) :
    memRead (s.setPort rest) index = memRead s index := by
  simp only [memRead, readReg_setPort]

/-- Settles O5, one access at a time. -/
theorem stepTakesNextAccess : Obligations.StepTakesNextAccess := by
  intro s rest
  refine ⟨fun a hport => ?_, fun w hport => step_command hport, fun a v ha hport => step_write ha hport,
    fun hport => step_reset hport, step_idle⟩
  rw [step_read hport, hostRead, memRead_setPort]
  rfl

/-- Settles O10: the map finds a register at its index, and an index it finds is that register's offset over 4. -/
theorem addressMapRoundTrip : Obligations.AddressMapRoundTrip :=
  ⟨fun r => ⟨(offset_of_regAt (regAt_index r)).symm, regAt_index r⟩, fun _ _ => index_of_regAt⟩

end Sys2Proof.Machine
end

section
/-! What a host read returns: the implemented bits of a register, and 0 elsewhere (20_memory R41, R43). -/

namespace Sys2Proof.Machine

theorem memRead_of_regAt {index : WordIndex} {r : Reg} (h : regAt index = some r) (s : State) :
    memRead s index = readReg s r := by
  rw [memRead, h]

theorem memRead_unmapped {index : WordIndex} (h : regAt index = none) (s : State) : memRead s index = 0#32 := by
  rw [memRead, h]

/-! ## Reserved bits -/

/-- A field lies within the bits that the same field full of ones occupies. -/
theorem field_and_eq_zero {n : Nat} (v : BitVec n) {lo : Nat} {m : Word}
    (h : field (BitVec.allOnes n) lo &&& m = 0#32) : field v lo &&& m = 0#32 := by
  have hv : field v lo = field v lo &&& field (BitVec.allOnes n) lo := by
    apply BitVec.eq_of_getLsbD_eq
    intro p hp
    simp only [BitVec.getLsbD_and, getLsbD_field, BitVec.getLsbD_allOnes]
    by_cases hn : p - lo < n
    · simp only [hp, hn, decide_true, Bool.true_and, Bool.and_true]
      rw [Bool.and_right_comm, Bool.and_self]
    · simp [BitVec.getLsbD_of_ge v (p - lo) (by omega)]
  rw [hv, BitVec.and_assoc, h, BitVec.and_zero]

theorem or_and_eq_zero {w₁ w₂ m : Word} : (w₁ ||| w₂) &&& m = 0#32 ↔ w₁ &&& m = 0#32 ∧ w₂ &&& m = 0#32 := by
  rw [BitVec.and_or_distrib_right, BitVec.or_eq_zero_iff]

/-- A register of 32 implemented bits has no reserved bit. -/
theorem and_not_full (w : Word) : w &&& ~~~0xFFFFFFFF#32 = 0#32 := BitVec.and_zero

/-- FRAME2 ends with byte 8 of the frame, its most significant byte. -/
theorem frameWord_reserved (f : Vector Byte 9) (j : Fin 3) :
    frameWord f j &&& ~~~(Reg.frame j).implemented = 0#32 := by
  by_cases hj : j.val = 2
  · simp (disch := decide) [frameWord, packBytes, Reg.implemented, hj, field_and_eq_zero,
      List.getD_eq_getElem?_getD]
  · simpa only [Reg.implemented, hj, if_false] using and_not_full _

/-- VIEW1 ends with entry 11, in its lower half. -/
theorem viewWord_reserved (v : Vector (BitVec 4) 12) (j : Fin 2) :
    viewWord v j &&& ~~~(Reg.view j).implemented = 0#32 := by
  by_cases hj : j.val = 1
  · simp (disch := decide) [viewWord, Reg.implemented, hj, or_and_eq_zero, field_and_eq_zero,
      List.getD_eq_getElem?_getD]
  · simpa only [Reg.implemented, hj, if_false] using and_not_full _

/-- BYTES2 ends with byte position 9, in its upper half. -/
theorem bytesWord_reserved (bytes : List Byte) (j : Fin 3) :
    bytesWord bytes j.val &&& ~~~(Reg.bytes j).implemented = 0#32 := by
  by_cases hj : j.val = 2
  · simp (disch := decide) [bytesWord, packBytes, Reg.implemented, hj, or_and_eq_zero, field_and_eq_zero,
      List.getD_eq_getElem?_getD, List.getElem?_take]
  · simpa only [Reg.implemented, hj, if_false] using and_not_full _

/-- BITS[6] ends with raw bit 199, the lowest of its most significant byte. -/
theorem bitsWord_reserved (bits : List Bool) (j : Fin 7) :
    bitsWord bits j.val &&& ~~~(Reg.bits j).implemented = 0#32 := by
  by_cases hj : j.val = 6
  · have hmask : (Reg.bits j).implemented = field (BitVec.allOnes 8) 24 := by
      simp only [Reg.implemented, hj, if_true]
      rfl
    apply BitVec.eq_of_getLsbD_eq
    intro q hq
    have hbit := getLsbD_bitsWord bits j.val (p := 31 - q) (by omega)
    rw [show 31 - (31 - q) = q by omega, hj] at hbit
    rw [hmask, hj, BitVec.getLsbD_and, hbit, BitVec.getLsbD_not, getLsbD_field]
    by_cases hlow : q < 24
    · simp [show ¬ 32 * 6 + (31 - q) < 200 by omega]
    · simp [-BitVec.reduceAllOnes, hq, show 24 ≤ q by omega, show q - 24 < 8 by omega]
  · simpa only [Reg.implemented, hj, if_false] using and_not_full _

/-- A register reads zero in every bit the map does not list. -/
theorem readReg_reserved (s : State) (r : Reg) : readReg s r &&& ~~~r.implemented = 0#32 := by
  cases r with
  | cmd => exact BitVec.zero_and
  | status => simp (disch := decide) only [readReg, statusWord, or_and_eq_zero, field_and_eq_zero, and_self]
  | tblRes => simp (disch := decide) only [readReg, tblResWord, or_and_eq_zero, field_and_eq_zero, and_self]
  | frame j => exact frameWord_reserved s.frame j
  | view j => exact viewWord_reserved s.view j
  | bytes j => exact bytesWord_reserved s.byteBuf j
  | bits j => exact bitsWord_reserved s.bitBuf j
  | slot i f =>
    cases f with
    | score | state => exact field_and_eq_zero _ (by simp only [Reg.implemented]; decide)
    | _ => exact and_not_full _
  | count | startLevel | bitLen | start | found | byteLen | cls | csumOk | frameValid | pulse _ =>
    exact field_and_eq_zero _ (by simp only [Reg.implemented]; decide)
  | _ => exact and_not_full _

/-- Settles O8: a read of a register is its implemented bits, and the step with a read touches the host's side only. -/
theorem readReturnsImplementedBits : Obligations.ReadReturnsImplementedBits := by
  intro s a
  refine ⟨?_, fun r hr => ⟨memRead_of_regAt hr s, readReg_reserved s r⟩,
    fun rest hport => ⟨_, step_read hport, rfl⟩⟩
  rintro (hnone | hcmd)
  · exact memRead_unmapped hnone s
  · exact memRead_of_regAt hcmd s

end Sys2Proof.Machine
end

section
/-! What a host write stores: the implemented bits of the value, in a read-write register only (20_memory R42). -/

namespace Sys2Proof.Machine

/-! ## The implemented bits of a value -/

/-- The low `n` bits of a word, kept in place. -/
theorem field_truncate {n : Nat} (v : Word) : field (v.truncate n) 0 = v &&& field (BitVec.allOnes n) 0 := by
  apply BitVec.eq_of_getLsbD_eq
  intro p hp
  simp only [BitVec.getLsbD_and, getLsbD_field, BitVec.truncate_eq_setWidth, BitVec.getLsbD_setWidth,
    BitVec.getLsbD_allOnes, hp, Nat.zero_le, Nat.sub_zero, decide_true, Bool.true_and]
  exact Bool.and_comm _ _

/-- The bits above the low `n` take no part in them. -/
theorem truncate_and_field {n : Nat} (hn : n ≤ 32) (v : Word) :
    (v &&& field (BitVec.allOnes n) 0).truncate n = v.truncate n := by
  apply BitVec.eq_of_getLsbD_eq
  intro p hp
  simp only [BitVec.truncate_eq_setWidth, BitVec.getLsbD_setWidth, BitVec.getLsbD_and, getLsbD_field,
    BitVec.getLsbD_allOnes, hp, show p < 32 by omega, Nat.zero_le, Nat.sub_zero, decide_true, Bool.true_and,
    Bool.and_true]

/-- A value loses nothing in a register of 32 implemented bits. -/
theorem and_full (v : Word) : v &&& 0xFFFFFFFF#32 = v := BitVec.and_allOnes

/-! ## A write of one register -/

theorem writeReg_eq_self {r : Reg} (hr : r.access ≠ .readWrite) (s : State) (v : Word) : writeReg s r v = s := by
  cases r with
  | count | startLevel | start | argId | argPressure | argTemp | argNow | cfgId _ | pulse _ => exact absurd rfl hr
  | _ => rfl

/-- A write sees the implemented bits of the value only. -/
theorem writeReg_and_implemented (s : State) (r : Reg) (v : Word) :
    writeReg s r v = writeReg s r (v &&& r.implemented) := by
  cases r with
  | count => exact congrArg (fun n => { s with count := n }) (truncate_and_field (by decide) v).symm
  | start => exact congrArg (fun n => { s with start := n }) (truncate_and_field (by decide) v).symm
  | pulse k =>
    exact congrArg (fun d => { s with pulse := s.pulse.store k.val d }) (truncate_and_field (by decide) v).symm
  | startLevel => simp [writeReg, Reg.implemented]
  | argId | argPressure | argTemp | argNow | cfgId _ => simp only [Reg.implemented, and_full]
  | _ => rfl

/-- A read-write register reads as the implemented bits last written to it. -/
theorem readReg_writeReg_same {r : Reg} (hr : r.access = .readWrite) (s : State) (v : Word) :
    readReg (writeReg s r v) r = v &&& r.implemented := by
  cases r with
  | count | start => exact field_truncate v
  | startLevel =>
    simp only [readReg, writeReg, boolWord, ← BitVec.setWidth_one]
    exact field_truncate v
  | pulse k =>
    simp only [readReg, writeReg, State.pulseAt, lookup_store_same, Option.getD_some]
    exact field_truncate v
  | cfgId j =>
    simp only [readReg, writeReg, Reg.implemented, and_full]
    exact Vector.getElem_set_self j.isLt
  | argId | argPressure | argTemp | argNow => exact (and_full v).symm
  | _ => cases hr

/-- A write touches the registers the host owns only. -/
theorem writeReg_frame (s : State) (r : Reg) (v : Word) :
    writeReg s r v = { s with
      count := (writeReg s r v).count, startLevel := (writeReg s r v).startLevel
      pulse := (writeReg s r v).pulse, start := (writeReg s r v).start
      argId := (writeReg s r v).argId, argPressure := (writeReg s r v).argPressure
      argTemp := (writeReg s r v).argTemp, argNow := (writeReg s r v).argNow
      cfgId := (writeReg s r v).cfgId } := by
  cases r <;> rfl

/-- A write leaves every other register reading as before. -/
theorem readReg_writeReg_other {r r' : Reg} (hr : r' ≠ r) (s : State) (v : Word) :
    readReg (writeReg s r v) r' = readReg s r' := by
  cases r' with
  | pulse k => exact congrArg (field · 0) (writeReg_pulseAt hr.symm s v)
  | cfgId j =>
    cases r with
    | cfgId i => exact Vector.getElem_set_ne i.isLt j.isLt fun h => hr (congrArg Reg.cfgId (Fin.ext h).symm)
    | _ => rfl
  | count | startLevel | start | argId | argPressure | argTemp | argNow =>
    cases r
    all_goals try contradiction
    all_goals rfl
  | _ =>
    rw [writeReg_frame]
    rfl

/-! ## A write at a word index -/

theorem memWrite_of_regAt {index : WordIndex} {r : Reg} (h : regAt index = some r) (s : State) (v : Word) :
    memWrite s index v = writeReg s r v := by
  rw [memWrite, h]

theorem memWrite_unmapped {index : WordIndex} (h : regAt index = none) (s : State) (v : Word) :
    memWrite s index v = s := by
  rw [memWrite, h]

theorem memWrite_eq_self {index : WordIndex} (h : ∀ r, regAt index = some r → r.access ≠ .readWrite) (s : State)
    (v : Word) : memWrite s index v = s := by
  cases hr : regAt index with
  | none => exact memWrite_unmapped hr s v
  | some r => exact (memWrite_of_regAt hr s v).trans (writeReg_eq_self (h r hr) s v)

theorem memRead_memWrite_same {index : WordIndex} {r : Reg} (h : regAt index = some r) (hr : r.access = .readWrite)
    (s : State) (v : Word) : memRead (memWrite s index v) index = v &&& r.implemented := by
  rw [memRead_of_regAt h, memWrite_of_regAt h, readReg_writeReg_same hr]

/-- Two word indices lead to two registers, so a write at one is not seen at the other. -/
theorem memRead_memWrite_other {a b : WordIndex} (hab : b ≠ a) (s : State) (v : Word) :
    memRead (memWrite s a v) b = memRead s b := by
  cases hra : regAt a with
  | none => rw [memWrite_unmapped hra]
  | some r =>
    cases hrb : regAt b with
    | none => rw [memRead_unmapped hrb, memRead_unmapped hrb]
    | some r' =>
      have hne : r' ≠ r := fun h => hab (by rw [← index_of_regAt hra, ← index_of_regAt hrb, h])
      rw [memWrite_of_regAt hra, memRead_of_regAt hrb, memRead_of_regAt hrb, readReg_writeReg_other hne]

theorem memWrite_frame (s : State) (index : WordIndex) (v : Word) :
    memWrite s index v = { s with
      count := (memWrite s index v).count, startLevel := (memWrite s index v).startLevel
      pulse := (memWrite s index v).pulse, start := (memWrite s index v).start
      argId := (memWrite s index v).argId, argPressure := (memWrite s index v).argPressure
      argTemp := (memWrite s index v).argTemp, argNow := (memWrite s index v).argNow
      cfgId := (memWrite s index v).cfgId } := by
  cases hr : regAt index with
  | none => rw [memWrite_unmapped hr]
  | some r =>
    rw [memWrite_of_regAt hr]
    exact writeReg_frame s r v

/-- Settles O9: read after write at the same index and at another, the writes that do nothing, and the frame. -/
theorem writeStoresImplementedBits : Obligations.WriteStoresImplementedBits := by
  intro s a v
  exact ⟨fun rest hport => step_command hport, fun r h hr => memRead_memWrite_same h hr s v,
    fun _ h => memWrite_eq_self h s v, fun b hab => memRead_memWrite_other hab s v, memWrite_frame s a v⟩

end Sys2Proof.Machine
end

section
/-! The reserved offsets (20_memory R44): the word indices that the map leaves out. -/

namespace Sys2Proof.Machine

/-- The last two of the eight words of a slot are reserved. -/
theorem slotFieldAt_eq_none {n : Nat} : slotFieldAt n = none ↔ 6 ≤ n := by
  unfold slotFieldAt
  split
  case h_7 =>
    simp only [imp_false, true_iff] at *
    omega
  all_goals simp

/-- The gaps of the map below the slots, in words; above, it has no register of this region. -/
theorem lowRegAt_eq_none {n : Nat} :
    lowRegAt n = none ↔ n = 15 ∨ n = 30 ∨ n = 31 ∨ (35 ≤ n ∧ n ≤ 39) ∨ 47 ≤ n := by
  unfold lowRegAt
  split
  case h_40 =>
    simp only [imp_false, true_iff] at *
    omega
  all_goals simp

/-- The gaps of the whole map, in words. -/
theorem regAt_eq_none {index : WordIndex} {n : Nat} (hn : index.toNat = n) :
    regAt index = none ↔
      n = 15 ∨ n = 30 ∨ n = 31 ∨ (35 ≤ n ∧ n ≤ 39) ∨ (47 ≤ n ∧ n ≤ 63)
        ∨ ((64 ≤ n ∧ n < 160) ∧ 6 ≤ (n - 64) % 8) ∨ (160 ≤ n ∧ n ≤ 255) ∨ n = 511 := by
  have hlt := index.isLt
  subst hn
  unfold regAt
  split
  next =>
    simp only [reduceCtorEq, false_iff]
    omega
  next =>
    split
    next =>
      rw [Option.map_eq_none_iff, slotFieldAt_eq_none]
      omega
    next =>
      rw [lowRegAt_eq_none]
      omega

/-- The offsets +0x18 and +0x1C of the slots are the last two of every eight words of the slot region. -/
theorem slotGap_iff {n : Nat} :
    (∃ i < 12, 4 * n = 0x100 + 0x20 * i + 0x18 ∨ 4 * n = 0x100 + 0x20 * i + 0x1C)
      ↔ (64 ≤ n ∧ n < 160) ∧ 6 ≤ (n - 64) % 8 := by
  constructor
  · rintro ⟨i, hi, h⟩
    omega
  · rintro ⟨hslots, hword⟩
    exact ⟨(n - 64) / 8, by omega, by omega⟩

/-- Settles O11: the gaps of the map are the offsets R44 lists, and a register drops what it does not implement. -/
theorem reservedReadsZeroIgnoresWrites : Obligations.ReservedReadsZeroIgnoresWrites := by
  refine ⟨fun a => ?_, fun s a v h => ⟨memRead_unmapped h s, memWrite_unmapped h s v⟩,
    fun s r v => ⟨readReg_reserved s r, writeReg_and_implemented s r v⟩⟩
  rw [regAt_eq_none rfl, slotGap_iff]
  omega

end Sys2Proof.Machine
end

section
/-! `raise`, by code: RESULT, and the sticky flag of a code that has one (60_exceptions R135, R136). -/

namespace Sys2Proof.Machine

/-- A code without a sticky flag only sets RESULT. -/
theorem raise_noSticky {c : ResultCode} (h : c ∈ [.noPreamble, .checksumFail, .zeroId]) (s : State) :
    s.raise c = s.setResult c := by
  simp only [List.mem_cons, List.not_mem_nil, or_false] at h
  obtain rfl | rfl | rfl := h <;> simp [raise_eq, State.setResult]

theorem raise_bitOverflow (s : State) : s.raise .bitOverflow = { s with result := .bitOverflow, ovfBit := true } := by
  simp [raise_eq]

theorem raise_byteOverflow (s : State) :
    s.raise .byteOverflow = { s with result := .byteOverflow, ovfByte := true } := by
  simp [raise_eq]

theorem raise_illegalCmd (s : State) : s.raise .illegalCmd = { s with result := .illegalCmd, cmdErr := true } := by
  simp [raise_eq]

end Sys2Proof.Machine
end

section
/-! The encoder and the decoder are inverse to each other (30_encoding R61 to R64). -/

namespace Sys2Proof.Machine

theorem fields_of_encode (i : Instr) :
    opcodeField (encode i) = opcode i ∧ immField (encode i) = immediate i ∧ zeroField (encode i) = 0#8 :=
  Laws.EncodedOpcode.fields_of_word (immediate i) (opcode i)

theorem wellFormed_applycfg {imm : BitVec 16} : WellFormed (.applycfg imm) ↔ imm.extractLsb' 1 15 = 0#15 :=
  beq_iff_eq

/-- The decoder answers well-formed commands only: it checks the reserved bits of APPLYCFG (R62). -/
theorem wellFormed_of_decode {w : Word} {i : Instr} (h : decode w = .ok i) : WellFormed i := by
  obtain ⟨hzero, hopc, himm⟩ := fields_of_decode h
  cases i with
  | applycfg imm =>
    by_contra hreserved
    rw [wellFormed_applycfg] at hreserved
    simp [decode, hzero, ← hopc, ← himm, opcode, immediate, hreserved] at h
  | _ => rfl

theorem decode_encode {i : Instr} (h : WellFormed i) : decode (encode i) = .ok i := by
  obtain ⟨hopc, himm, hzero⟩ := fields_of_encode i
  simp only [decode, hopc, himm, hzero]
  cases i with
  | applycfg imm => simp [opcode, immediate, wellFormed_applycfg.mp h]
  | _ => rfl

/-- Settles O1, by reading the three fields of the word back. -/
theorem decodeOfEncodeIsTheCommand : Obligations.DecodeOfEncodeIsTheCommand := fun _ => decode_encode

/-- Settles O2: a word is the fields the decoder cuts it into, and it keeps them all. -/
theorem encodeOfDecodeIsTheWord : Obligations.EncodeOfDecodeIsTheWord :=
  fun _ _ h => ⟨wellFormed_of_decode h, (eq_encode_of_decode h).symm⟩

/-- Settles O4: each legal sample is the word of the command it stands for. -/
theorem sampleWordsDecode : Obligations.SampleWordsDecode :=
  ⟨decode_encode (i := .classify 30#16) rfl, decode_encode (i := .classify 65535#16) rfl,
    decode_encode (i := .decode) rfl, decode_encode (i := .onframe) rfl, decode_encode (i := .applycfg 1#16) rfl,
    rfl, rfl⟩

/-- Settles O6: the step issues the word, and a legal word runs its command. -/
theorem stepRunsDecodedCommand : Obligations.StepRunsDecodedCommand := by
  intro s w rest i hport hdecode
  refine ⟨wellFormed_of_decode hdecode, ?_⟩
  rw [step_command hport, issue, hdecode]
  rfl

end Sys2Proof.Machine
end

section
/-! The opcode map of R63, row by command: a word matches a row when it is the word of a command of that row. -/

namespace Sys2Proof.Machine

/-- The bits of a command word that its row of R63 fixes: all but the operand's. -/
def fixedBits : Instr → Word
  | .classify _ => 0xFF0000FF#32
  | .applycfg _ => 0xFFFFFEFF#32
  | .bitdec | .findpre | .mandec | .csum | .decode | .onframe | .decay | .view => 0xFFFFFFFF#32

/-- The row of R63 that stands for a command. -/
def rowOf (i : Instr) : OpcodeRow := ⟨mnemonic i, field (opcode i) 0, fixedBits i⟩

theorem rowOf_mem (i : Instr) : rowOf i ∈ opcodeRows := by
  cases i <;> simp [rowOf, opcodeRows, mnemonic, opcode, fixedBits, field]

theorem exists_rowOf {row : OpcodeRow} (h : row ∈ opcodeRows) : ∃ i, row = rowOf i := by
  simp only [opcodeRows, List.mem_cons, List.not_mem_nil, or_false] at h
  obtain rfl | rfl | rfl | rfl | rfl | rfl | rfl | rfl | rfl | rfl := h
  exacts [⟨.classify 0, rfl⟩, ⟨.bitdec, rfl⟩, ⟨.findpre, rfl⟩, ⟨.mandec, rfl⟩, ⟨.csum, rfl⟩, ⟨.decode, rfl⟩,
    ⟨.onframe, rfl⟩, ⟨.decay, rfl⟩, ⟨.view, rfl⟩, ⟨.applycfg 0, rfl⟩]

/-- A row of R63 is known by its mnemonic. -/
theorem rowOf_inj {i j : Instr} (h : mnemonic i = mnemonic j) : rowOf i = rowOf j := by
  have hrows : ∀ r₁ ∈ opcodeRows, ∀ r₂ ∈ opcodeRows, r₁.mnemonic = r₂.mnemonic → r₁ = r₂ := by decide
  exact hrows _ (rowOf_mem i) _ (rowOf_mem j) h

/-! ## Matching, field by field -/

theorem word_eq_iff {w v : Word} :
    w = v ↔ opcodeField w = opcodeField v ∧ immField w = immField v ∧ zeroField w = zeroField v := by
  constructor
  · rintro rfl
    exact ⟨rfl, rfl, rfl⟩
  · rintro ⟨hopc, himm, hzero⟩
    rw [word_eq_fields w, hopc, himm, hzero, ← word_eq_fields v]

/-- A masked word is its fields masked. -/
theorem and_eq_iff {w m v : Word} :
    w &&& m = v ↔ opcodeField w &&& opcodeField m = opcodeField v ∧ immField w &&& immField m = immField v
      ∧ zeroField w &&& zeroField m = zeroField v := by
  simp only [word_eq_iff, opcodeField, immField, zeroField, BitVec.extractLsb'_and]

/-- The row of CLASSIFY leaves the immediate free. -/
theorem classify_row_iff {w : Word} :
    w &&& 0xFF0000FF#32 = 0x01#32 ↔ opcodeField w = 0x01#8 ∧ zeroField w = 0#8 := by
  rw [and_eq_iff]
  change opcodeField w &&& BitVec.allOnes 8 = 0x01#8 ∧ immField w &&& 0#16 = 0#16
    ∧ zeroField w &&& BitVec.allOnes 8 = 0#8 ↔ _
  simp only [BitVec.and_allOnes, BitVec.and_zero, true_and]

/-- With its reserved bits 0, the immediate of APPLYCFG is 0 or 1 (R62). -/
theorem eq_zero_or_one_of_reserved {imm : BitVec 16} (h : imm.extractLsb' 1 15 = 0#15) : imm = 0#16 ∨ imm = 1#16 := by
  have hdiv := congrArg BitVec.toNat h
  simp only [BitVec.extractLsb'_toNat, Nat.shiftRight_eq_div_pow, BitVec.toNat_zero] at hdiv
  bv_omega

theorem and_reserved_eq_zero {imm : BitVec 16} : imm &&& 0xFFFE#16 = 0#16 ↔ imm.extractLsb' 1 15 = 0#15 := by
  constructor
  · intro h
    have hmask : (imm &&& 0xFFFE#16).extractLsb' 1 15 = imm.extractLsb' 1 15 :=
      BitVec.extractLsb'_and.trans BitVec.and_allOnes
    rw [← hmask, h]
    rfl
  · intro h
    obtain rfl | rfl := eq_zero_or_one_of_reserved h <;> rfl

/-- The row of APPLYCFG leaves bit 0 of the immediate free. -/
theorem applycfg_row_iff {w : Word} :
    w &&& 0xFFFFFEFF#32 = 0x0B#32
      ↔ opcodeField w = 0x0B#8 ∧ (immField w).extractLsb' 1 15 = 0#15 ∧ zeroField w = 0#8 := by
  rw [and_eq_iff, ← and_reserved_eq_zero]
  change opcodeField w &&& BitVec.allOnes 8 = 0x0B#8 ∧ immField w &&& 0xFFFE#16 = 0#16
    ∧ zeroField w &&& BitVec.allOnes 8 = 0#8 ↔ _
  simp only [BitVec.and_allOnes]

theorem eq_encode_iff {w : Word} {i : Instr} :
    w = encode i ↔ opcodeField w = opcode i ∧ immField w = immediate i ∧ zeroField w = 0#8 := by
  obtain ⟨hopc, himm, hzero⟩ := fields_of_encode i
  rw [word_eq_iff, hopc, himm, hzero]

/-- The word of a command matches the command's row. -/
theorem encode_and_fixedBits {i : Instr} (h : WellFormed i) : encode i &&& fixedBits i = field (opcode i) 0 := by
  obtain ⟨hopc, himm, hzero⟩ := fields_of_encode i
  cases i with
  | classify d => exact classify_row_iff.mpr ⟨hopc, hzero⟩
  | applycfg imm => exact applycfg_row_iff.mpr ⟨hopc, himm ▸ wellFormed_applycfg.mp h, hzero⟩
  | _ => rfl

/-- A word that matches the row of a command is the word of a command of that row. -/
theorem exists_encode_of_and_fixedBits {w : Word} {i : Instr} (h : w &&& fixedBits i = field (opcode i) 0) :
    ∃ j, WellFormed j ∧ mnemonic j = mnemonic i ∧ w = encode j := by
  cases i with
  | classify d =>
    obtain ⟨hopc, hzero⟩ := classify_row_iff.mp h
    exact ⟨.classify (immField w), rfl, rfl, eq_encode_iff.mpr ⟨hopc, rfl, hzero⟩⟩
  | applycfg imm =>
    obtain ⟨hopc, hreserved, hzero⟩ := applycfg_row_iff.mp h
    exact ⟨.applycfg (immField w), wellFormed_applycfg.mpr hreserved, rfl, eq_encode_iff.mpr ⟨hopc, rfl, hzero⟩⟩
  | _ => exact ⟨_, rfl, rfl, BitVec.and_allOnes.symm.trans h⟩

/-- A word selects the row of a command exactly when it decodes to a command of that name. -/
theorem matches_rowOf_iff {w : Word} {i : Instr} :
    w &&& (rowOf i).mask = (rowOf i).pattern ↔ ∃ j, decode w = .ok j ∧ mnemonic j = mnemonic i := by
  constructor
  · intro h
    obtain ⟨j, hwf, hname, rfl⟩ := exists_encode_of_and_fixedBits h
    exact ⟨j, decode_encode hwf, hname⟩
  · rintro ⟨j, hdecode, hname⟩
    rw [← rowOf_inj hname, eq_encode_of_decode hdecode]
    exact encode_and_fixedBits (wellFormed_of_decode hdecode)

/-- Settles O3: every row is the row of a command, so matching is decoding; the rows are disjoint because a word
decodes to one command and a row is known by its mnemonic. -/
theorem decoderFollowsOpcodeMap : Obligations.DecoderFollowsOpcodeMap := by
  refine ⟨rfl, fun w => ⟨fun i hdecode => ?_, fun row hrow hmatch => ?_, fun r₁ h₁ r₂ h₂ hm₁ hm₂ => ?_⟩⟩
  · exact ⟨rowOf i, rowOf_mem i, rfl, matches_rowOf_iff.mpr ⟨i, hdecode, rfl⟩⟩
  · obtain ⟨i, rfl⟩ := exists_rowOf hrow
    exact matches_rowOf_iff.mp hmatch
  · obtain ⟨i₁, rfl⟩ := exists_rowOf h₁
    obtain ⟨i₂, rfl⟩ := exists_rowOf h₂
    obtain ⟨j₁, hdecode₁, hname₁⟩ := matches_rowOf_iff.mp hm₁
    obtain ⟨j₂, hdecode₂, hname₂⟩ := matches_rowOf_iff.mp hm₂
    cases hdecode₁.symm.trans hdecode₂
    exact rowOf_inj (hname₁.symm.trans hname₂)

end Sys2Proof.Machine
end

section
/-! The illegal words are those R64 lists, and an illegal word only reports itself (30_encoding R64). -/

namespace Sys2Proof.Machine

/-- The opcodes without a plain command: the two with an immediate, and those R64 lists. -/
theorem plainCommand_eq_none {opc : Byte} (h : plainCommand opc = none) :
    opc = 0x00#8 ∨ opc = 0x01#8 ∨ opc = 0x07#8 ∨ opc = 0x0B#8 ∨ 0x0C ≤ opc.toNat := by
  unfold plainCommand at h
  repeat' split at h
  all_goals cases h
  bv_omega

/-- IMM[15:1] is w[23:9] (R62). -/
theorem reserved_of_immField (w : Word) : (immField w).extractLsb' 1 15 = w.extractLsb' 9 15 := by
  apply BitVec.eq_of_getLsbD_eq
  intro p hp
  simp [immField, show 1 + p < 16 by omega, ← Nat.add_assoc]

/-- The clauses of R64 read from the fields of a word. -/
theorem illegalWord_iff {w : Word} :
    IllegalWord w ↔ zeroField w ≠ 0#8
      ∨ opcodeField w = 0x00#8 ∨ opcodeField w = 0x07#8 ∨ 0x0C ≤ (opcodeField w).toNat
      ∨ (opcodeField w ≠ 0x01#8 ∧ opcodeField w ≠ 0x0B#8 ∧ immField w ≠ 0#16)
      ∨ (opcodeField w = 0x0B#8 ∧ (immField w).extractLsb' 1 15 ≠ 0#15) := by
  rw [reserved_of_immField]
  rfl

/-- The decoder turns away no word that R64 does not list. -/
theorem illegalWord_of_decode {w : Word} {e : Illegal} (h : decode w = .error e) : IllegalWord w := by
  rw [illegalWord_iff]
  unfold decode at h
  split at h
  next hzero => exact .inl hzero
  next =>
    split at h
    next => cases h
    next hclassify =>
      split at h
      next happlycfg =>
        split at h
        next => cases h
        next hreserved => exact .inr (.inr (.inr (.inr (.inr ⟨happlycfg, hreserved⟩))))
      next happlycfg =>
        split at h
        next hplain =>
          obtain hopc | hopc | hopc | hopc | hopc := plainCommand_eq_none hplain
          · exact .inr (.inl hopc)
          · exact absurd hopc hclassify
          · exact .inr (.inr (.inl hopc))
          · exact absurd hopc happlycfg
          · exact .inr (.inr (.inr (.inl hopc)))
        next =>
          split at h
          next => cases h
          next himm => exact .inr (.inr (.inr (.inr (.inl ⟨hclassify, happlycfg, himm⟩))))

/-- The word of a well-formed command is none of those R64 lists. -/
theorem not_illegalWord_encode {i : Instr} (h : WellFormed i) : ¬ IllegalWord (encode i) := by
  obtain ⟨hopc, himm, hzero⟩ := fields_of_encode i
  rw [illegalWord_iff, hopc, himm, hzero]
  cases i with
  | applycfg imm => simp [opcode, immediate, wellFormed_applycfg.mp h]
  | _ => simp [opcode, immediate]

/-- R64: the words the decoder turns away are those the rule lists. -/
theorem illegalWord_iff_decode {w : Word} : IllegalWord w ↔ ∃ e, decode w = .error e := by
  constructor
  · intro hw
    cases hdecode : decode w with
    | error e => exact ⟨e, rfl⟩
    | ok i =>
      rw [eq_encode_of_decode hdecode] at hw
      exact absurd hw (not_illegalWord_encode (wellFormed_of_decode hdecode))
  · rintro ⟨e, hdecode⟩
    exact illegalWord_of_decode hdecode

/-- Settles O7: the decoder turns away exactly the listed words, and `raise` is all that is done with one. -/
theorem illegalWordOnlyReports : Obligations.IllegalWordOnlyReports := by
  refine fun w => ⟨fun hw s => ?_, fun hw => ?_⟩
  · obtain ⟨e, hdecode⟩ := illegalWord_iff_decode.mp hw
    simp only [issue, hdecode, raise_illegalCmd]
    rfl
  · cases hdecode : decode w with
    | ok i => exact ⟨i, rfl⟩
    | error e => exact absurd (illegalWord_of_decode hdecode) hw

end Sys2Proof.Machine
end

section
/-! What each command writes and which result codes it leaves (30_encoding R67). -/

namespace Sys2Proof.Machine

/-! ## DECODE, piece by piece -/

/-- `t` differs from `s` only in what the row of DECODE lists as written (30_encoding R67), and in RESULT. -/
def DecodeRow (s t : State) : Prop := t = withSticky (withDecodeResults s t) t.ovfBit t.ovfByte s.cmdErr

theorem DecodeRow.trans {s t u : State} (hst : DecodeRow s t) (htu : DecodeRow t u) : DecodeRow s u := by
  have hframe := congrArg (fun v : State => withSticky (withDecodeResults v u) u.ovfBit u.ovfByte v.cmdErr) hst
  exact Eq.trans htu hframe

theorem decodeRow_setBitBuf (s : State) (bits : List Bool) : DecodeRow s (s.setBitBuf bits) := rfl

theorem decodeRow_countCsumFail (s : State) : DecodeRow s s.countCsumFail := rfl

/-- Counting the capture and clearing the earlier decode is of DECODE's row (R105). -/
theorem decodeRow_cleared (s : State) : DecodeRow s s.noteTimings.clearDecode :=
  DecodeRow.trans (t := s.noteTimings) rfl rfl

theorem decodeRow_raise {c : ResultCode} (h : c ≠ .illegalCmd) (s : State) : DecodeRow s (s.raise c) := by
  have hcmdErr : (c == ResultCode.illegalCmd) = false := beq_false_of_ne h
  simp [DecodeRow, raise_eq, withSticky, withDecodeResults, hcmdErr]

/-- What DECODE has written once a preamble was found and the bytes were read (R105 steps 3 to 6). -/
theorem decodeRow_found (s : State) (bits : List Bool) (start : BitVec 8) (bytes : List Byte) :
    DecodeRow s ((((s.setBitBuf bits).setSearch true start).countPreamble).setByteBuf bytes) :=
  DecodeRow.trans (t := (s.setBitBuf bits).setSearch true start) rfl rfl

/-- What DECODE writes when the checksum holds (R105 step 7). -/
theorem decodeRow_accepted (s : State) (f : Vector Byte 9) :
    DecodeRow s ((((s.setCsumOk true).countCsumOk).setFrame f true).setResult .ok) :=
  DecodeRow.trans (t := (s.setCsumOk true).countCsumOk) rfl rfl

theorem DecodeExit.row {s t : State} (h : DecodeExit s t) : DecodeRow s t := by
  cases h with
  | bitOverflow _ => exact (decodeRow_setBitBuf s _).trans (decodeRow_raise (by decide) _)
  | noPreamble _ _ => exact (decodeRow_setBitBuf s _).trans (decodeRow_raise (by decide) _)
  | byteOverflow _ _ _ => exact (decodeRow_found s _ _ _).trans (decodeRow_raise (by decide) _)
  | checksumFail _ _ _ _ =>
    exact ((decodeRow_found s _ _ _).trans (decodeRow_countCsumFail _)).trans (decodeRow_raise (by decide) _)
  | ok _ _ _ _ => exact (decodeRow_found s _ _ _).trans (decodeRow_accepted _ _)

theorem DecodeExit.result {s t : State} (h : DecodeExit s t) :
    t.result = .ok ∨ t.result = .noPreamble ∨ t.result = .checksumFail ∨ t.result = .bitOverflow
      ∨ t.result = .byteOverflow := by
  cases h <;> simp

/-! ## The row of each command -/

theorem classify_row {s t : State} {d : Duration} (h : CommandEffect s (.classify d) t) :
    t = { s with cls := t.cls, result := .ok } := by
  cases h; rfl

theorem bitdec_row {s t : State} (h : CommandEffect s .bitdec t) :
    t = { s with bitBuf := t.bitBuf, ovfBit := t.ovfBit, result := t.result }
      ∧ (t.result = .ok ∨ t.result = .bitOverflow) := by
  cases h with
  | bitdecOverflow _ => rw [raise_bitOverflow]; exact ⟨rfl, .inr rfl⟩
  | bitdecOk _ => exact ⟨rfl, .inl rfl⟩

theorem findpre_row {s t : State} (h : CommandEffect s .findpre t) :
    t = { s with found := t.found, start := t.start, result := t.result }
      ∧ (t.result = .ok ∨ t.result = .noPreamble) := by
  cases h with
  | findpreOk _ => exact ⟨rfl, .inl rfl⟩
  | findpreNone _ => rw [raise_noSticky (by simp)]; exact ⟨rfl, .inr rfl⟩

theorem mandec_row {s t : State} (h : CommandEffect s .mandec t) :
    t = { s with byteBuf := t.byteBuf, ovfByte := t.ovfByte, result := t.result }
      ∧ (t.result = .ok ∨ t.result = .byteOverflow) := by
  cases h with
  | mandecOverflow _ => rw [raise_byteOverflow]; exact ⟨rfl, .inr rfl⟩
  | mandecOk _ => exact ⟨rfl, .inl rfl⟩

theorem csum_row {s t : State} (h : CommandEffect s .csum t) :
    t = { s with csumOk := t.csumOk, result := t.result } ∧ (t.result = .ok ∨ t.result = .checksumFail) := by
  cases h with
  | csumOk _ => exact ⟨rfl, .inl rfl⟩
  | csumFail _ => rw [raise_noSticky (by simp)]; exact ⟨rfl, .inr rfl⟩

theorem decode_row {s t : State} (h : CommandEffect s .decode t) :
    t = withSticky (withDecodeResults s t) t.ovfBit t.ovfByte s.cmdErr
      ∧ (t.result = .ok ∨ t.result = .noPreamble ∨ t.result = .checksumFail ∨ t.result = .bitOverflow
        ∨ t.result = .byteOverflow) := by
  cases h with
  | decode hexit => exact ⟨(decodeRow_cleared s).trans hexit.row, hexit.result⟩

/-- A write of one slot leaves the other slots alone. -/
theorem slots_set_other {slots : Vector Slot 12} {i j : Fin 12} (h : j ≠ i) (r : Slot) :
    (slots.set i.val r)[j] = slots[j] :=
  Vector.getElem_set_ne _ _ fun hij => h (Fin.ext hij.symm)

theorem onframe_row {s t : State} (h : CommandEffect s .onframe t) :
    t = { s with slots := t.slots, tblRes := t.tblRes, result := t.result }
      ∧ (s.argId = 0#32 → t.result = .zeroId ∧ t.slots = s.slots)
      ∧ (s.argId ≠ 0#32 → t.result = .ok ∧
        ∀ j : Fin 12,
          j ≠ ((matchIn s.slots s.argId configuredSlots).or (matchIn s.slots s.argId extraSlots)).getD
            (victim s.slots) →
          t.slots[j] = s.slots[j]) := by
  cases h with
  | onframeZero hid =>
    rw [raise_noSticky (by simp)]
    exact ⟨rfl, fun _ => ⟨rfl, rfl⟩, fun hne => absurd hid hne⟩
  | onframeConfigured hid hmatch =>
    rw [hmatch]
    exact ⟨rfl, fun hzero => absurd hzero hid, fun _ => ⟨rfl, fun j hj => slots_set_other hj _⟩⟩
  | onframeExtra hid hnone hmatch =>
    rw [hnone, hmatch]
    exact ⟨rfl, fun hzero => absurd hzero hid, fun _ => ⟨rfl, fun j hj => slots_set_other hj _⟩⟩
  | onframePlaced hid hconf hextra =>
    rw [hconf, hextra]
    exact ⟨rfl, fun hzero => absurd hzero hid, fun _ => ⟨rfl, fun j hj => slots_set_other hj _⟩⟩

theorem decay_row {s t : State} (h : CommandEffect s .decay t) : t = { s with slots := t.slots, result := .ok } := by
  cases h; rfl

theorem view_row {s t : State} (h : CommandEffect s .view t) : t = { s with view := t.view, result := .ok } := by
  cases h; rfl

theorem applycfg_row {s t : State} {imm : BitVec 16} (h : CommandEffect s (.applycfg imm) t) :
    t = { s with slots := t.slots, result := .ok } ∧ ∀ i : Fin 12, 4 ≤ i.val → t.slots[i] = s.slots[i] := by
  cases h
  exact ⟨rfl, fun i hi => by simp [configSlot, Nat.not_lt.mpr hi]⟩

/-- Settles O50, row by row. -/
theorem commandsWriteOnlyTheirRow : Obligations.CommandsWriteOnlyTheirRow := fun _ _ =>
  ⟨fun _ h => classify_row (commandEffect_of_exec h), fun h => bitdec_row (commandEffect_of_exec h),
    fun h => findpre_row (commandEffect_of_exec h), fun h => mandec_row (commandEffect_of_exec h),
    fun h => csum_row (commandEffect_of_exec h), fun h => decode_row (commandEffect_of_exec h),
    fun h => onframe_row (commandEffect_of_exec h), fun h => decay_row (commandEffect_of_exec h),
    fun h => view_row (commandEffect_of_exec h), fun _ h => applycfg_row (commandEffect_of_exec h)⟩

end Sys2Proof.Machine
end

section
/-! The bit recovery loop and the raw bits of a capture; CLASSIFY and BITDEC (40_pulse_bit_recovery R80 to R84). -/

namespace Sys2Proof.Machine

/-! ## The raw bits, pulse by pulse (R84 (a), (c)) -/

@[simp] theorem rawBits_nil (level : Bool) : rawBits [] level = [] := rfl

/-- The first pulse is at the starting level, and the rest of the capture starts from the other one. -/
theorem rawBits_cons (d : Duration) (rest : List Duration) (level : Bool) :
    rawBits (d :: rest) level = List.replicate (classify d).reps level ++ rawBits rest (!level) := by
  have hparity (k : Nat) : (level ^^ ((k + 1) % 2 == 1)) = (!level ^^ (k % 2 == 1)) := by
    rcases Nat.mod_two_eq_zero_or_one k with hk | hk <;> simp [Nat.add_mod, hk]
  simp [rawBits, List.mapIdx_cons, hparity]

/-! ## The loop of R82 -/

/-- From a buffer within its capacity the loop adds the raw bits that still fit, and overflows exactly when some do
not. -/
theorem bitdecLoop_eq_rawBits (pulses : List Duration) (level : Bool) (bits : List Bool) (h : bits.length ≤ 200) :
    bitdecLoop pulses level bits
      = ((bits ++ rawBits pulses level).take 200, decide (200 < bits.length + (rawBits pulses level).length)) := by
  induction pulses generalizing level bits with
  | nil => simp [bitdecLoop, List.take_of_length_le h, h]
  | cons d rest ih =>
    rw [bitdecLoop, appendLevel_eq _ _ _ h, rawBits_cons, ← List.append_assoc]
    have hheld : (bits ++ List.replicate (classify d).reps level).length = bits.length + (classify d).reps := by simp
    by_cases hfull : 200 < bits.length + (classify d).reps
    · rw [List.take_append_of_le_length (l₂ := rawBits rest (!level)) (by omega)]
      have hover : 200 < bits.length + ((classify d).reps + (rawBits rest (!level)).length) := by omega
      simp [hfull, hover]
    · have hrest := ih (!level) (bits ++ List.replicate (classify d).reps level) (by omega)
      rw [List.take_of_length_le (l := bits ++ List.replicate (classify d).reps level) (by omega)]
      simpa [hfull, Nat.add_assoc] using hrest

/-- `bitdec` keeps the first 200 raw bits and reports whether there are more. -/
theorem bitdec_eq_rawBits (pulses : List Duration) (level : Bool) :
    bitdec pulses level = ((rawBits pulses level).take 200, decide (200 < (rawBits pulses level).length)) := by
  simpa [bitdec] using bitdecLoop_eq_rawBits pulses level [] (Nat.zero_le _)

/-! ## The commands -/

/-- Settles O28, by whether the raw bits of the capture fit BITBUF. -/
theorem bitdecResult : Obligations.BitdecResult := by
  intro s
  have hcapture : (List.range s.count.toNat).map s.pulseAt = s.capture := rfl
  simp only [exec, execBitdec, hcapture, bitdec_eq_rawBits]
  by_cases hover : 200 < (rawBits s.capture s.startLevel).length
  · simp [hover, raise_bitOverflow, State.setBitBuf]
  · simp [hover, State.setBitBuf, State.setResult]

/-- CLASS reads as the number of the class (R80, R81). -/
theorem readReg_cls_of_classify {d : Duration} {t : State} (h : t.cls = classify d) :
    readReg t .cls = if d.toNat < 20 then 0#32 else if d.toNat < 80 then 1#32 else 2#32 := by
  have hclass : t.cls = if d.toNat < 20 then .invalid else if d.toNat < 80 then .short else .long := h
  simp only [readReg, hclass]
  by_cases hmin : d.toNat < 20
  · simp only [hmin, if_true]; rfl
  · by_cases hlong : d.toNat < 80 <;> simp only [hmin, hlong, if_true, if_false] <;> rfl

/-- Settles O24: the thresholds are those of `classify`, and CLASS reads as the number of the class. -/
theorem classifyByThresholds : Obligations.ClassifyByThresholds := fun _ _ =>
  ⟨_, rfl, rfl, (memRead_index _ _).trans (readReg_cls_of_classify rfl)⟩

end Sys2Proof.Machine
end

section
/-! The search for the preamble, by the first index at which it stands; FINDPRE (41_preamble_sync R90, R92). -/

namespace Sys2Proof.Machine

/-! ## Where the preamble stands -/

/-- `c` is the smallest index at which the preamble stands in the sequence (R90). -/
def FirstPreamble (bits : List Bool) (c : Nat) : Prop :=
  PreambleAt bits c ∧ ∀ c' < c, ¬ PreambleAt bits c'

theorem PreambleAt.add_le_length {bits : List Bool} {c : Nat} (h : PreambleAt bits c) : c + 16 ≤ bits.length := by
  have hlength := congrArg List.length h
  simp only [List.length_take, List.length_drop, List.length_cons, List.length_nil] at hlength
  omega

theorem not_preambleAt_nil (c : Nat) : ¬ PreambleAt [] c := fun h => by
  simpa using h.add_le_length

/-- The test of R90 at the candidate index. -/
theorem isPrefixOf_preamble_iff {bits : List Bool} : Config.preamble.isPrefixOf bits = true ↔ PreambleAt bits 0 := by
  rw [List.isPrefixOf_iff_prefix, List.prefix_iff_eq_take]
  exact eq_comm

/-- A first preamble past the head of the sequence is the first one of the tail. -/
theorem FirstPreamble.tail {b : Bool} {rest : List Bool} {c : Nat} (h : FirstPreamble (b :: rest) (c + 1)) :
    FirstPreamble rest c :=
  ⟨h.1, fun c' hc' => h.2 (c' + 1) (Nat.succ_lt_succ hc')⟩

theorem firstPreamble_or_none (bits : List Bool) : (∃ c, FirstPreamble bits c) ∨ ∀ c, ¬ PreambleAt bits c := by
  by_cases h : ∃ c, PreambleAt bits c
  · exact .inl ⟨Nat.find h, Nat.find_spec h, fun _ => Nat.find_min h⟩
  · exact .inr (not_exists.mp h)

/-! ## The search (R90) -/

/-- The search from candidate `candidate` stops at the first preamble of the bits it is given. -/
theorem findpreFrom_of_first (candidate : Nat) {bits : List Bool} {c : Nat} (h : FirstPreamble bits c) :
    findpreFrom candidate bits = some (candidate + c + 16) := by
  induction bits generalizing candidate c with
  | nil => exact absurd h.1 (not_preambleAt_nil c)
  | cons b rest ih =>
    rw [findpreFrom]
    cases c with
    | zero => rw [if_pos (isPrefixOf_preamble_iff.mpr h.1)]; rfl
    | succ c =>
      have hhead : ¬ PreambleAt (b :: rest) 0 := h.2 0 c.succ_pos
      rw [if_neg (isPrefixOf_preamble_iff.not.mpr hhead), ih (candidate + 1) h.tail]
      congr 1
      omega

theorem findpreFrom_of_none (candidate : Nat) {bits : List Bool} (h : ∀ c, ¬ PreambleAt bits c) :
    findpreFrom candidate bits = none := by
  induction bits generalizing candidate with
  | nil => rfl
  | cons b rest ih =>
    rw [findpreFrom, if_neg (isPrefixOf_preamble_iff.not.mpr (h 0))]
    exact ih (candidate + 1) fun c => h (c + 1)

theorem findpre_of_first {bits : List Bool} {c : Nat} (h : FirstPreamble bits c) : findpre bits = some (c + 16) := by
  rw [findpre, findpreFrom_of_first 0 h, Nat.zero_add]

theorem findpre_of_none {bits : List Bool} (h : ∀ c, ¬ PreambleAt bits c) : findpre bits = none :=
  findpreFrom_of_none 0 h

theorem findpre_eq_some_iff {bits : List Bool} {start : Nat} :
    findpre bits = some start ↔ ∃ c, start = c + 16 ∧ FirstPreamble bits c := by
  constructor
  · intro hsome
    rcases firstPreamble_or_none bits with ⟨c, hfirst⟩ | hnone
    · exact ⟨c, Option.some.inj (hsome.symm.trans (findpre_of_first hfirst)), hfirst⟩
    · exact absurd (hsome.symm.trans (findpre_of_none hnone)) (Option.some_ne_none start)
  · rintro ⟨c, rfl, hfirst⟩
    exact findpre_of_first hfirst

theorem findpre_eq_none_iff {bits : List Bool} : findpre bits = none ↔ ∀ c, ¬ PreambleAt bits c := by
  refine ⟨fun hsearch => ?_, findpre_of_none⟩
  rcases firstPreamble_or_none bits with ⟨c, hfirst⟩ | hnone
  · exact absurd ((findpre_of_first hfirst).symm.trans hsearch) (Option.some_ne_none _)
  · exact hnone

/-- Settles O29: the search ends at the first preamble exactly when there is one, and a preamble lies inside the
sequence. -/
theorem findpreFirstOccurrence : Obligations.FindpreFirstOccurrence := by
  refine fun bits => ⟨fun start => findpre_eq_some_iff.trans (exists_congr fun c => and_congr_right fun _ => ?_),
    findpre_eq_none_iff⟩
  exact ⟨fun hfirst => ⟨hfirst.1.add_le_length, hfirst⟩, fun ⟨_, hfirst⟩ => hfirst⟩

/-! ## The command (R92) -/

/-- Settles O31, by what the search answers; NO_PREAMBLE has no sticky flag. -/
theorem findpreResult : Obligations.FindpreResult := by
  refine fun s => ⟨fun c hat hbefore => ?_, fun hnone => ?_⟩
  · simp only [exec, execFindpre, findpre_of_first ⟨hat, hbefore⟩]
    rfl
  · simp only [exec, execFindpre, findpre_of_none hnone, raise_noSticky (c := .noPreamble) (by simp)]
    rfl

end Sys2Proof.Machine
end

section
/-! When the Manchester loop overflows; MANDEC (42_manchester R95, R97). -/

namespace Sys2Proof.Machine

/-! ## The loop of R95 -/

/-- From a buffer within its capacity the loop overflows exactly when its groups do not all fit. -/
theorem mandecLoop_overflow (n : Nat) (rest : List Bool) (bytes : List Byte) (h : bytes.length ≤ 10) :
    (mandecLoop n rest bytes).2 = decide (10 < bytes.length + n) := by
  induction n generalizing rest bytes with
  | zero => simpa [mandecLoop] using h
  | succ n ih =>
    rw [mandecLoop]
    split
    next hfull =>
      have hcap : 10 ≤ bytes.length := append_eq_none.mp hfull
      exact (decide_eq_true (by omega)).symm
    next bytes' hroom =>
      obtain ⟨hlt, rfl⟩ := append_eq_some.mp hroom
      have hfits : (bytes ++ [manchesterByte (rest.take 16)]).length ≤ 10 := by simpa using hlt
      simp [ih _ _ hfits, Nat.add_assoc, Nat.add_comm 1]

/-- An eleventh complete group of 16 follows `start` exactly when 176 raw bits do. -/
theorem mandec_overflow (bits : List Bool) (start : Nat) :
    (mandec bits start).2 = decide (start + 176 ≤ bits.length) := by
  have heleven : 10 < 0 + (bits.length - start) / 16 ↔ start + 176 ≤ bits.length := by omega
  exact (mandecLoop_overflow _ _ [] (Nat.zero_le _)).trans (decide_eq_decide.mpr heleven)

/-! ## The command -/

/-- Settles O34, by whether the complete groups after START fit BYTEBUF. -/
theorem mandecResult : Obligations.MandecResult := by
  intro s
  have hdecoded : mandec s.bitBuf s.start.toNat
      = ((mandec s.bitBuf s.start.toNat).1, decide (s.start.toNat + 176 ≤ s.bitBuf.length)) :=
    Prod.ext rfl (mandec_overflow _ _)
  simp only [exec, execMandec]
  rw [hdecoded]
  by_cases hover : s.start.toNat + 176 ≤ s.bitBuf.length
  · simp [hover, raise_byteOverflow, State.setByteBuf]
  · simp [hover, State.setByteBuf, State.setResult]

end Sys2Proof.Machine
end

section
/-! The checksum test and CSUM (43_checksum R100, R101). -/

namespace Sys2Proof.Machine

/-! ## The test (R100) -/

/-- Fewer than nine bytes have no byte 8 to compare with. -/
theorem csumValid_of_length_lt {bytes : List Byte} (h : bytes.length < 9) : csumValid bytes = false := by
  have hnone : bytes[8]? = none := List.getElem?_eq_none (by omega)
  rw [csumValid, hnone]

/-- Behind a payload of eight bytes the test compares the next byte, whatever follows it. -/
theorem csumValid_payload {payload : List Byte} (h : payload.length = 8) (c : Byte) (tail : List Byte) :
    csumValid (payload ++ c :: tail) = decide (xorBytes payload = c) := by
  have hbyte8 : (payload ++ c :: tail)[8]? = some c := by simp [h]
  have htake : (payload ++ c :: tail).take 8 = payload := List.take_left' h
  rw [csumValid, hbyte8, htake]
  exact beq_eq_decide _ _

/-- Settles O35, by splitting off the first eight bytes; their fold starts at the zero byte. -/
theorem checksumIsXorOfEight : Obligations.ChecksumIsXorOfEight := by
  refine ⟨fun _ => csumValid_of_length_lt, fun b0 b1 b2 b3 b4 b5 b6 b7 c tail => ?_⟩
  have hxor : xorBytes [b0, b1, b2, b3, b4, b5, b6, b7] = b0 ^^^ b1 ^^^ b2 ^^^ b3 ^^^ b4 ^^^ b5 ^^^ b6 ^^^ b7 := by
    simp [xorBytes]
  rw [← hxor]
  exact csumValid_payload (payload := [b0, b1, b2, b3, b4, b5, b6, b7]) rfl c tail

/-! ## The command (R101) -/

/-- Settles O37, by the two endings of CSUM; CHECKSUM_FAIL has no sticky flag. -/
theorem csumResult : Obligations.CsumResult := by
  intro s
  obtain ⟨t, hexec, heffect⟩ := exec_effect .csum s
  rw [hexec]
  cases heffect with
  | csumOk hvalid => exact ⟨fun _ => rfl, fun hinvalid => by simp [hvalid] at hinvalid⟩
  | csumFail hinvalid =>
    rw [raise_noSticky (by simp)]
    exact ⟨fun hvalid => by simp [hvalid] at hinvalid, fun _ => rfl⟩

end Sys2Proof.Machine
end

section
/-! DECODE by its exits, the counters it moves, and what it depends on (44_frame_decode R105, R106, R110). -/

namespace Sys2Proof.Machine

/-! ## The exits determine DECODE (R105, R109) -/

/-- The exits exclude each other: a state with an exit has no other outcome. -/
theorem DecodeExit.eq_decodeBits {s t : State} (h : DecodeExit s t) : decodeBits s = t := by
  cases h with
  | bitOverflow hbits => simp [decodeBits, hbits]
  | noPreamble hbits hpre => simp [decodeBits, decodeSearch, hbits, hpre]
  | byteOverflow hbits hpre hbytes => simp [decodeBits, decodeSearch, decodeBytes, hbits, hpre, hbytes]
  | checksumFail hbits hpre hbytes hcsum =>
    simp [decodeBits, decodeSearch, decodeBytes, decodeCheck, hbits, hpre, hbytes, hcsum]
  | ok hbits hpre hbytes hcsum =>
    simp [decodeBits, decodeSearch, decodeBytes, decodeCheck, hbits, hpre, hbytes, hcsum]

theorem exec_decode_iff {s t : State} : exec .decode s = .next t ↔ DecodeExit s.noteTimings.clearDecode t := by
  constructor
  · intro hexec
    cases commandEffect_of_exec hexec with
    | decode hexit => exact hexit
  · intro hexit
    exact congrArg Host.Outcome.next hexit.eq_decodeBits

theorem capture_congr {s u : State} (hcount : u.count = s.count)
    (hpulse : ∀ k < s.count.toNat, u.pulseAt k = s.pulseAt k) : u.capture = s.capture := by
  unfold State.capture
  rw [hcount]
  exact List.map_congr_left fun k hk => hpulse k (List.mem_range.mp hk)

/-- Clearing the earlier decode leaves the capture as it stands. -/
@[simp] theorem cleared_capture (s : State) : s.noteTimings.clearDecode.capture = s.capture :=
  capture_congr (by simp) fun k _ => pulseAt_congr (by simp) k

/-! ## DECODE in closed form (R105) -/

/-- FRAME takes the first nine bytes (R107). -/
theorem frameOf_take_nine (bytes : List Byte) :
    frameOf (bytes.take 9) = Vector.ofFn fun j : Fin 9 => bytes.getD j.val 0#8 := by
  unfold frameOf
  congr 1
  funext j
  simp [List.getD_eq_getElem?_getD, List.getElem?_take_of_lt j.isLt]

/-- The state DECODE searches from: the timings noted, every result of an earlier decode cleared. -/
theorem cleared_eq (s : State) :
    s.noteTimings.clearDecode = { s with
      statMaxTimings := BitVec.ofNat 32 (max s.statMaxTimings.toNat s.count.toNat)
      found := false, start := 0#8, byteBuf := [], csumOk := false
      frame := Vector.replicate 9 0#8, frameValid := false } := by
  simp only [State.clearDecode, State.noteTimings, State.setSearch, State.setByteBuf, State.setCsumOk,
    State.setFrame, zeroFrame]
  rfl

/-- The state DECODE checks the bytes in: the preamble found and counted, the bytes of the Manchester stage stored. -/
theorem searched_eq (s : State) (bits : List Bool) (start : BitVec 8) (bytes : List Byte) :
    (((s.noteTimings.clearDecode.setBitBuf bits).setSearch true start).countPreamble).setByteBuf bytes = { s with
      statMaxTimings := BitVec.ofNat 32 (max s.statMaxTimings.toNat s.count.toNat)
      found := true, start := start, byteBuf := bytes, csumOk := false
      frame := Vector.replicate 9 0#8, frameValid := false, bitBuf := bits
      statPreamble := satAdd32 s.statPreamble 1 } := by
  simp only [cleared_eq, State.setBitBuf, State.setSearch, State.countPreamble, State.setByteBuf]

/-- Settles O38, exit by exit. -/
theorem decodeResultByFirstExit : Obligations.DecodeResultByFirstExit := by
  intro s
  have hcapture : (List.range s.count.toNat).map s.pulseAt = s.capture := rfl
  rw [hcapture]
  generalize hraw : rawBits s.capture s.startLevel = raw
  by_cases hover : 200 < raw.length
  · have hbits : bitdec s.noteTimings.clearDecode.capture s.noteTimings.clearDecode.startLevel
        = (raw.take 200, true) := by
      simp [bitdec_eq_rawBits, hraw, hover]
    rw [exec_decode_iff.mpr (.bitOverflow hbits), raise_bitOverflow, cleared_eq]
    simp only [if_pos hover, State.setBitBuf]
  · have hbits : bitdec s.noteTimings.clearDecode.capture s.noteTimings.clearDecode.startLevel = (raw, false) := by
      simp [bitdec_eq_rawBits, hraw, hover, List.take_of_length_le (Nat.not_lt.mp hover)]
    simp only [if_neg hover, List.take_of_length_le (Nat.not_lt.mp hover)]
    cases hpre : findpre raw with
    | none =>
      rw [exec_decode_iff.mpr (.noPreamble hbits hpre), raise_noSticky (by simp), cleared_eq]
      simp only [State.setBitBuf, State.setResult]
    | some start =>
      have hbytes : mandec raw start = ((mandec raw start).1, decide (start + 176 ≤ raw.length)) :=
        Prod.ext rfl (mandec_overflow raw start)
      by_cases hfull : start + 176 ≤ raw.length
      · rw [decide_eq_true hfull] at hbytes
        rw [exec_decode_iff.mpr (.byteOverflow hbits hpre hbytes), raise_byteOverflow, searched_eq]
        simp only [if_pos hfull, satAdd32]
      · rw [decide_eq_false hfull] at hbytes
        simp only [if_neg hfull]
        cases hcsum : csumValid ((mandec raw start).1.take 9) with
        | false =>
          rw [exec_decode_iff.mpr (.checksumFail hbits hpre hbytes hcsum), raise_noSticky (by simp), searched_eq]
          simp only [State.countCsumFail, State.setResult, satAdd32, Bool.false_eq_true, if_false]
        | true =>
          rw [exec_decode_iff.mpr (.ok hbits hpre hbytes hcsum), frameOf_take_nine, searched_eq]
          simp only [State.setCsumOk, State.countCsumOk, State.setFrame, State.setResult, satAdd32, if_true]

/-! ## The counters (R106) -/

/-- What the counters become from the cleared state on, by the result. -/
theorem DecodeExit.counters {s t : State} (h : DecodeExit s t) :
    t.statMaxTimings = s.statMaxTimings
    ∧ t.statPreamble.toNat
        = (if t.result = .ok ∨ t.result = .checksumFail ∨ t.result = .byteOverflow
           then min (s.statPreamble.toNat + 1) (2 ^ 32 - 1) else s.statPreamble.toNat)
    ∧ t.statCsumOk.toNat
        = (if t.result = .ok then min (s.statCsumOk.toNat + 1) (2 ^ 32 - 1) else s.statCsumOk.toNat)
    ∧ t.statCsumFail.toNat
        = (if t.result = .checksumFail then min (s.statCsumFail.toNat + 1) (2 ^ 32 - 1)
           else s.statCsumFail.toNat) := by
  cases h <;> simp [satAdd32_toNat]

/-- Settles O39: the timings are noted before the exits, and each exit moves the counters of its result. -/
theorem decodeCountersByResult : Obligations.DecodeCountersByResult := by
  intro s t hexec
  have hexit := exec_decode_iff.mp hexec
  obtain ⟨hmax, hpre, hok, hfail⟩ := hexit.counters
  simp only [clearDecode_statMaxTimings, clearDecode_statPreamble, clearDecode_statCsumOk, clearDecode_statCsumFail,
    noteTimings_statPreamble, noteTimings_statCsumOk, noteTimings_statCsumFail] at hmax hpre hok hfail
  refine ⟨hmax ▸ noteTimings_toNat s, hpre, hok, hfail, ?_⟩
  have hresult := hexit.result
  tauto

/-! ## What DECODE depends on (R110) -/

/-- `u` with the results of `r`, its sticky flags and its counters moved on from its own values as the results of `r`
say: what DECODE leaves of `u` when `r` is what it leaves of the same capture. -/
def afterDecodeOf (u r : State) : State :=
  { withSticky (withDecodeResults u r) (u.ovfBit || r.result == .bitOverflow) (u.ovfByte || r.result == .byteOverflow)
      u.cmdErr with
    statMaxTimings := BitVec.ofNat 32 (max u.statMaxTimings.toNat u.count.toNat)
    statPreamble := satAdd32 u.statPreamble (if r.found then 1 else 0)
    statCsumOk := satAdd32 u.statCsumOk (if r.frameValid then 1 else 0)
    statCsumFail := satAdd32 u.statCsumFail (if r.result = .checksumFail then 1 else 0) }

theorem satAdd32_zero (a : Word) : satAdd32 a 0 = a := by
  have hlt := a.isLt
  refine BitVec.eq_of_toNat_eq ?_
  rw [satAdd32_toNat]
  omega

/-- DECODE of one capture takes the same exit from every state that holds it. -/
theorem exec_decode_same_capture {s t u : State} (hcapture : u.capture = s.capture)
    (hlevel : u.startLevel = s.startLevel) (hexec : exec .decode s = .next t) :
    exec .decode u = .next (afterDecodeOf u t) := by
  have hsame : bitdec u.noteTimings.clearDecode.capture u.noteTimings.clearDecode.startLevel
      = bitdec s.noteTimings.clearDecode.capture s.noteTimings.clearDecode.startLevel := by
    simp only [cleared_capture, clearDecode_startLevel, noteTimings_startLevel, hcapture, hlevel]
  cases exec_decode_iff.mp hexec with
  | bitOverflow hbits =>
    rw [exec_decode_iff.mpr (.bitOverflow (hsame.trans hbits)), cleared_eq, cleared_eq]
    simp [raise_eq, State.setBitBuf, afterDecodeOf, withSticky, withDecodeResults, satAdd32_zero]
  | noPreamble hbits hpre =>
    rw [exec_decode_iff.mpr (.noPreamble (hsame.trans hbits) hpre), cleared_eq, cleared_eq]
    simp [raise_eq, State.setBitBuf, afterDecodeOf, withSticky, withDecodeResults, satAdd32_zero]
  | byteOverflow hbits hpre hbytes =>
    rw [exec_decode_iff.mpr (.byteOverflow (hsame.trans hbits) hpre hbytes), searched_eq, searched_eq]
    simp [raise_eq, afterDecodeOf, withSticky, withDecodeResults, satAdd32_zero]
  | checksumFail hbits hpre hbytes hcsum =>
    rw [exec_decode_iff.mpr (.checksumFail (hsame.trans hbits) hpre hbytes hcsum), searched_eq, searched_eq]
    simp [raise_eq, State.countCsumFail, afterDecodeOf, withSticky, withDecodeResults, satAdd32_zero]
  | ok hbits hpre hbytes hcsum =>
    rw [exec_decode_iff.mpr (.ok (hsame.trans hbits) hpre hbytes hcsum), searched_eq, searched_eq]
    simp [State.setCsumOk, State.countCsumOk, State.setFrame, State.setResult, afterDecodeOf, withSticky,
      withDecodeResults, satAdd32_zero]

/-- DECODE itself leaves what its own results say. -/
theorem eq_afterDecodeOf_self {s t : State} (hexec : exec .decode s = .next t) : t = afterDecodeOf s t :=
  Host.Outcome.next.inj (hexec.symm.trans (exec_decode_same_capture rfl rfl hexec))

/-- Settles O40: the old counters are the only other thing the outcome is made of. -/
theorem decodeDependsOnCaptureAndCounters : Obligations.DecodeDependsOnCaptureAndCounters := by
  intro s u t hcount hlevel hpulse hmax hpre hok hfail hexec
  have hself := eq_afterDecodeOf_self hexec
  have htMax : t.statMaxTimings = BitVec.ofNat 32 (max u.statMaxTimings.toNat u.count.toNat) := by
    rw [hmax, hcount]
    exact congrArg State.statMaxTimings hself
  have htPre : t.statPreamble = satAdd32 u.statPreamble (if t.found then 1 else 0) :=
    hpre ▸ congrArg State.statPreamble hself
  have htOk : t.statCsumOk = satAdd32 u.statCsumOk (if t.frameValid then 1 else 0) :=
    hok ▸ congrArg State.statCsumOk hself
  have htFail : t.statCsumFail = satAdd32 u.statCsumFail (if t.result = .checksumFail then 1 else 0) :=
    hfail ▸ congrArg State.statCsumFail hself
  rw [exec_decode_same_capture (capture_congr hcount hpulse) hlevel hexec, afterDecodeOf, ← htMax, ← htPre, ← htOk,
    ← htFail]
  rfl

/-- Settles O41: the capture still stands, its flags are set and its timings are noted already. -/
theorem secondDecodeLeavesTheSame : Obligations.SecondDecodeLeavesTheSame := by
  intro s t hexec
  have hself := eq_afterDecodeOf_self hexec
  have hcount : t.count = s.count := (congrArg State.count hself :)
  have hlevel : t.startLevel = s.startLevel := (congrArg State.startLevel hself :)
  have hpulse : t.pulse = s.pulse ∧ t.resets = s.resets :=
    ⟨(congrArg State.pulse hself :), (congrArg State.resets hself :)⟩
  have hbit : (t.ovfBit || t.result == .bitOverflow) = t.ovfBit := by
    have htBit : t.ovfBit = (s.ovfBit || t.result == .bitOverflow) := (congrArg State.ovfBit hself :)
    rw [htBit, Bool.or_assoc, Bool.or_self]
  have hbyte : (t.ovfByte || t.result == .byteOverflow) = t.ovfByte := by
    have htByte : t.ovfByte = (s.ovfByte || t.result == .byteOverflow) := (congrArg State.ovfByte hself :)
    rw [htByte, Bool.or_assoc, Bool.or_self]
  have hmax : BitVec.ofNat 32 (max t.statMaxTimings.toNat t.count.toNat) = t.statMaxTimings := by
    have htMax := (decodeCountersByResult s t hexec).1
    rw [hcount, Nat.max_eq_left (by omega)]
    exact BitVec.ofNat_toNat _ _
  rw [exec_decode_same_capture (capture_congr hcount fun k _ => pulseAt_congr hpulse k) hlevel hexec, afterDecodeOf,
    hbit, hbyte, hmax]
  rfl

end Sys2Proof.Machine
end

section
/-! The stage commands on a capture whose DECODE reaches the checksum (44_frame_decode R105; 95_test_vectors). -/

namespace Sys2Proof.Machine

/-! ## Each stage, when it succeeds -/

theorem exec_bitdec_of_fits {s : State} {bits : List Bool} (h : bitdec s.capture s.startLevel = (bits, false)) :
    exec .bitdec s = .next ((s.setBitBuf bits).setResult .ok) := by
  simp only [exec, execBitdec, h]

theorem exec_findpre_of_some {s : State} {start : Nat} (h : findpre s.bitBuf = some start) :
    exec .findpre s = .next ((s.setSearch true (BitVec.ofNat 8 start)).setResult .ok) := by
  simp only [exec, execFindpre, h]

theorem exec_mandec_of_fits {s : State} {bytes : List Byte} (h : mandec s.bitBuf s.start.toNat = (bytes, false)) :
    exec .mandec s = .next ((s.setByteBuf bytes).setResult .ok) := by
  simp only [exec, execMandec, h]

/-- CSUM, both endings at once. -/
theorem csum_fields {s t : State} (h : exec .csum s = .next t) :
    t = { s with
      csumOk := csumValid s.byteBuf, result := if csumValid s.byteBuf then .ok else .checksumFail } := by
  cases hvalid : csumValid s.byteBuf with
  | false => exact Host.Outcome.next.inj (h.symm.trans ((csumResult s).2 hvalid))
  | true => exact Host.Outcome.next.inj (h.symm.trans ((csumResult s).1 hvalid))

/-! ## The stages in a row -/

/-- START holds the whole index, because BITBUF holds at most 200 bits. -/
theorem start_toNat_of_findpre {bits : List Bool} {start : Nat} (hlength : bits.length ≤ 200)
    (hpre : findpre bits = some start) : (BitVec.ofNat 8 start).toNat = start := by
  obtain ⟨c, rfl, hfirst⟩ := findpre_eq_some_iff.mp hpre
  have hinside := hfirst.1.add_le_length
  rw [BitVec.toNat_ofNat, Nat.mod_eq_of_lt (by omega)]

/-- A tenth byte takes no part in the test (R100, R107). -/
theorem csumValid_take_nine (bytes : List Byte) : csumValid (bytes.take 9) = csumValid bytes := by
  have hbyte8 : (bytes.take 9)[8]? = bytes[8]? := List.getElem?_take_of_lt (by decide)
  have hpayload : (bytes.take 9).take 8 = bytes.take 8 := by simp [List.take_take]
  rw [csumValid, csumValid, hbyte8, hpayload]

/-- What the four stages leave of a capture on which the first three succeed. -/
theorem stages_fields {s b f m c : State} {bits : List Bool} {start : Nat} {bytes : List Byte}
    (hbits : bitdec s.capture s.startLevel = (bits, false)) (hpre : findpre bits = some start)
    (hbytes : mandec bits start = (bytes, false))
    (hb : exec .bitdec s = .next b) (hf : exec .findpre b = .next f) (hm : exec .mandec f = .next m)
    (hc : exec .csum m = .next c) :
    c.bitBuf = bits ∧ c.found = true ∧ c.start = BitVec.ofNat 8 start ∧ c.byteBuf = bytes
      ∧ c.csumOk = csumValid (bytes.take 9)
      ∧ c.result = if csumValid (bytes.take 9) then .ok else .checksumFail := by
  cases (exec_bitdec_of_fits hbits).symm.trans hb
  cases (exec_findpre_of_some (by simpa using hpre)).symm.trans hf
  have hstart := start_toNat_of_findpre (bitdec_length_le hbits) hpre
  cases (exec_mandec_of_fits (bytes := bytes) (by simpa [hstart] using hbytes)).symm.trans hm
  rw [csum_fields hc, csumValid_take_nine]
  exact ⟨rfl, rfl, rfl, rfl, rfl, rfl⟩

/-- Settles O43: OK and CHECKSUM_FAIL are the exits past the first three stages. -/
theorem decodeAgreesWithStageCommands : Obligations.DecodeAgreesWithStageCommands := by
  intro s d b f m c hd hresult hb hf hm hc
  cases exec_decode_iff.mp hd with
  | bitOverflow _ => simp at hresult
  | noPreamble _ _ => simp at hresult
  | byteOverflow _ _ _ => simp at hresult
  | checksumFail hbits hpre hbytes hcsum =>
    simp only [cleared_capture, clearDecode_startLevel, noteTimings_startLevel] at hbits
    obtain ⟨hbitBuf, hfound, hstart, hbyteBuf, hok, hcode⟩ := stages_fields hbits hpre hbytes hb hf hm hc
    simp [hbitBuf, hfound, hstart, hbyteBuf, hok, hcode, hcsum]
  | ok hbits hpre hbytes hcsum =>
    simp only [cleared_capture, clearDecode_startLevel, noteTimings_startLevel] at hbits
    obtain ⟨hbitBuf, hfound, hstart, hbyteBuf, hok, hcode⟩ := stages_fields hbits hpre hbytes hb hf hm hc
    simp [hbitBuf, hfound, hstart, hbyteBuf, hok, hcode, hcsum]

end Sys2Proof.Machine
end

section
/-!
The eviction victim as the least extra slot under the key of R118, and ONFRAME in its four cases
(45_sensor_table R116 to R119).
-/

namespace Sys2Proof.Machine

/-! ## Configured and extra slots (10_state R25) -/

theorem mem_configuredSlots {i : Fin 12} : i ∈ configuredSlots ↔ i.val < 4 := by
  revert i; decide

theorem mem_extraSlots {i : Fin 12} : i ∈ extraSlots ↔ 4 ≤ i.val := by
  revert i; decide

theorem configuredSlots_ascending : configuredSlots.Pairwise (· < ·) := by decide

theorem extraSlots_ascending : extraSlots.Pairwise (· < ·) := by decide

/-! ## The least element of a scan -/

/-- The lesser of two elements; the first where `less` decides nothing. -/
def lesser {α : Type} (less : α → α → Bool) (best a : α) : α := if less a best then a else best

theorem lesser_eq_or {α : Type} (less : α → α → Bool) (best a : α) :
    lesser less best a = best ∨ lesser less best a = a := by
  unfold lesser
  split <;> simp

section
variable {α : Type} {less : α → α → Bool}
  (htrans : ∀ a b c, less a b = true → less b c = true → less a c = true)
  (htotal : ∀ a b, a ≠ b → less a b = true ∨ less b a = true)
include htotal

/-- Neither element goes before the lesser of the two. -/
theorem lesser_least (best a : α) :
    (best = lesser less best a ∨ less (lesser less best a) best = true)
      ∧ (a = lesser less best a ∨ less (lesser less best a) a = true) := by
  unfold lesser
  split
  next hless => exact ⟨.inr hless, .inl rfl⟩
  next hnot => exact ⟨.inl rfl, or_iff_not_imp_left.mpr fun hne => (htotal a best hne).resolve_left hnot⟩

include htrans

/-- Scanning a list for a strict total order, the lesser element kept, ends at the least element of all. -/
theorem foldl_lesser_least (l : List α) (best : α) :
    l.foldl (lesser less) best ∈ best :: l
      ∧ ∀ a ∈ best :: l, a = l.foldl (lesser less) best ∨ less (l.foldl (lesser less) best) a = true := by
  induction l generalizing best with
  | nil => simp
  | cons b rest ih =>
    obtain ⟨hmem, hleast⟩ := ih (lesser less best b)
    obtain ⟨hbest, hb⟩ := lesser_least htotal best b
    rw [List.foldl_cons]
    generalize rest.foldl (lesser less) (lesser less best b) = m at hmem hleast
    have hbelow : ∀ a, a = lesser less best b ∨ less (lesser less best b) a = true → a = m ∨ less m a = true := by
      rintro a (rfl | hless)
      · exact hleast _ List.mem_cons_self
      · rcases hleast _ List.mem_cons_self with heq | hm
        · exact .inr (heq ▸ hless)
        · exact .inr (htrans _ _ _ hm hless)
    constructor
    · rcases lesser_eq_or less best b with heq | heq <;> grind
    · intro a ha
      rcases List.mem_cons.mp ha with rfl | ha
      · exact hbelow _ hbest
      rcases List.mem_cons.mp ha with rfl | ha
      · exact hbelow _ hb
      · exact hleast a (List.mem_cons_of_mem _ ha)

end

/-! ## The key of R118 -/

/-- The third part of the key: an empty slot ranks before a live one. -/
def liveRank (r : Slot) : Nat := if r.id = 0#32 then 0 else 1

/-- Slot `i` goes before slot `j` as a victim: the lexicographic order of R118, written out. -/
def VictimBefore (slots : Vector Slot 12) (i j : Fin 12) : Prop :=
  slots[i].score.toNat < slots[j].score.toNat
    ∨ (slots[i].score = slots[j].score ∧ (slots[i].lastSeen.toNat < slots[j].lastSeen.toNat
      ∨ (slots[i].lastSeen = slots[j].lastSeen ∧ (liveRank slots[i] < liveRank slots[j]
        ∨ (liveRank slots[i] = liveRank slots[j] ∧ i < j)))))

theorem lexLess_victimKey_iff {slots : Vector Slot 12} {i j : Fin 12} :
    lexLess (victimKey slots i) (victimKey slots j) = true ↔ VictimBefore slots i j := by
  simp [lexLess, victimKey, VictimBefore, liveRank, BitVec.toNat_inj]

theorem VictimBefore.trans {slots : Vector Slot 12} {i j k : Fin 12} (hij : VictimBefore slots i j)
    (hjk : VictimBefore slots j k) : VictimBefore slots i k := by
  simp only [VictimBefore, ← BitVec.toNat_inj] at *
  omega

theorem victimBefore_total {slots : Vector Slot 12} {i j : Fin 12} (h : i ≠ j) :
    VictimBefore slots i j ∨ VictimBefore slots j i := by
  simp only [VictimBefore, ← BitVec.toNat_inj]
  omega

/-- R118: the victim is an extra slot, and goes before every other extra slot. -/
theorem victim_least (slots : Vector Slot 12) :
    4 ≤ (victim slots).val ∧ ∀ i : Fin 12, 4 ≤ i.val → i ≠ victim slots → VictimBefore slots (victim slots) i := by
  obtain ⟨hmem, hleast⟩ := foldl_lesser_least (less := fun i j => lexLess (victimKey slots i) (victimKey slots j))
    (fun i j k => by simpa only [lexLess_victimKey_iff] using VictimBefore.trans)
    (fun i j hij => by simpa only [lexLess_victimKey_iff] using victimBefore_total hij) extraSlots 4
  have hscan : ∀ i : Fin 12, i ∈ 4 :: extraSlots ↔ 4 ≤ i.val := by decide
  exact ⟨(hscan _).mp hmem, fun i hi hne =>
    lexLess_victimKey_iff.mp ((hleast i ((hscan i).mpr hi)).resolve_left hne)⟩

/-- The empty record has the least key but for its index, so only an empty slot of lower index goes before it. -/
theorem VictimBefore.of_empty {slots : Vector Slot 12} {i j : Fin 12} (h : VictimBefore slots i j)
    (hj : slots[j] = Slot.empty) : slots[i].id = 0#32 ∧ i < j := by
  rcases h with hscore | ⟨-, hseen | ⟨-, hlive | ⟨hlive, hij⟩⟩⟩
  · simp [hj, Slot.empty] at hscore
  · simp [hj, Slot.empty] at hseen
  · simp [hj, Slot.empty, liveRank] at hlive
  · exact ⟨by simpa [hj, Slot.empty, liveRank] using hlive, hij⟩

/-- Settles O45: an empty extra slot has score 0 and LASTSEEN 0, so no live slot goes before it. -/
theorem victimHasLeastKey : Obligations.VictimHasLeastKey := by
  intro s
  obtain ⟨hextra, hleast⟩ := victim_least s.slots
  refine ⟨hextra, hleast, fun hinv i hi hempty => ?_⟩
  by_cases hv : i = victim s.slots
  · exact ⟨hv ▸ hempty, hv.ge⟩
  · obtain ⟨hid, hlt⟩ := (hleast i hi hv).of_empty (hinv.emptyCleared i hempty)
    exact ⟨hid, hlt.le⟩

/-! ## The search for a match (R117) -/

/-- The match among ascending candidates is the least candidate that holds the id. -/
theorem matchIn_of_least {slots : Vector Slot 12} {id : Word} {candidates : List (Fin 12)} {i : Fin 12}
    (hascending : candidates.Pairwise (· < ·)) (hi : i ∈ candidates) (hid : slots[i].id = id)
    (hleast : ∀ j, j < i → slots[j].id ≠ id) : matchIn slots id candidates = some i := by
  induction hascending with
  | nil => simp at hi
  | @cons c rest hc _ ih =>
    rcases List.mem_cons.mp hi with rfl | hrest
    · exact List.find?_cons_of_pos (by simpa using hid)
    · exact (List.find?_cons_of_neg (by simpa using hleast c (hc i hrest))).trans (ih hrest)

/-! ## ONFRAME -/

/-- Id 0 is turned away before any slot is looked at (R119). -/
theorem exec_onframe_zero {s : State} (hid : s.argId = 0#32) :
    exec .onframe s = .next ((s.setTblRes ⟨0#4, .nothing, false⟩).raise .zeroId) :=
  if_pos hid

theorem exec_onframe_configured {s : State} {i : Fin 12} (hid : s.argId ≠ 0#32)
    (hmatch : matchIn s.slots s.argId configuredSlots = some i) :
    exec .onframe s = .next (sightSlot i .configured s) := by
  simp [exec, execOnframe, hid, hmatch]

theorem exec_onframe_extra {s : State} {i : Fin 12} (hid : s.argId ≠ 0#32)
    (hnone : matchIn s.slots s.argId configuredSlots = none)
    (hmatch : matchIn s.slots s.argId extraSlots = some i) :
    exec .onframe s = .next (sightSlot i .extra s) := by
  simp [exec, execOnframe, hid, hnone, hmatch]

/-- An id that no slot holds goes to the victim. -/
theorem exec_onframe_placed {s : State} (hid : s.argId ≠ 0#32) (hnew : ∀ j : Fin 12, s.slots[j].id ≠ s.argId) :
    exec .onframe s = .next (placeSlot (victim s.slots) s) := by
  have hnone : ∀ candidates, matchIn s.slots s.argId candidates = none :=
    fun _ => matchIn_none.mpr fun j _ => hnew j
  simp [exec, execOnframe, hid, hnone]

/-- An id that some slot holds refreshes the least such slot; a configured slot has a lower index than any extra. -/
theorem exec_onframe_sighted {s : State} {i : Fin 12} (hid : s.argId ≠ 0#32) (hi : s.slots[i].id = s.argId)
    (hleast : ∀ j : Fin 12, j < i → s.slots[j].id ≠ s.argId) :
    exec .onframe s = .next (sightSlot i (if i.val < 4 then .configured else .extra) s) := by
  by_cases hconf : i.val < 4
  · rw [if_pos hconf]
    exact exec_onframe_configured hid
      (matchIn_of_least configuredSlots_ascending (mem_configuredSlots.mpr hconf) hi hleast)
  · rw [if_neg hconf]
    have hnone : matchIn s.slots s.argId configuredSlots = none := matchIn_none.mpr fun j hj =>
      hleast j ((mem_configuredSlots.mp hj).trans_le (not_lt.mp hconf))
    exact exec_onframe_extra hid hnone
      (matchIn_of_least extraSlots_ascending (mem_extraSlots.mpr (not_lt.mp hconf)) hi hleast)

/-- Settles O44: id 0, an id the table holds, a new id. -/
theorem onframeResult : Obligations.OnframeResult := by
  intro s
  refine ⟨fun hzero => ?_, fun hid i hi hleast => exec_onframe_sighted hid hi hleast,
    fun hid hnew => exec_onframe_placed hid hnew⟩
  rw [exec_onframe_zero hzero, raise_noSticky (by simp)]
  rfl

end Sys2Proof.Machine
end

section
/-! DECAY, VIEW and APPLYCFG (45_sensor_table R120, R125, R131). -/

namespace Sys2Proof.Machine

/-! ## DECAY -/

/-- R120 for one slot, by whether it is an extra slot that reaches 0. -/
theorem decaySlot_eq (i : Fin 12) (r : Slot) :
    decaySlot i r = if 4 ≤ i.val ∧ r.score.toNat ≤ 10 then Slot.empty
      else { r with score := BitVec.ofNat 8 (r.score.toNat - 10) } := by
  have hzero : scoreDown r.score = 0#8 ↔ r.score.toNat ≤ 10 := by
    rw [← BitVec.toNat_inj, scoreDown_toNat]
    exact Nat.sub_eq_zero_iff_le
  simp only [decaySlot, hzero]
  rfl

/-- Settles O46, slot by slot. -/
theorem decayResult : Obligations.DecayResult := fun s =>
  ⟨Vector.ofFn fun i => decaySlot i s.slots[i], rfl, fun i => by simpa [Slot.empty] using decaySlot_eq i s.slots[i]⟩

/-! ## The order of VIEW -/

theorem viewBefore_iff {slots : Vector Slot 12} {i j : Fin 12} :
    viewBefore slots i j = true ↔
      slots[j].score.toNat < slots[i].score.toNat ∨ (slots[j].score = slots[i].score ∧ i < j) := by
  simp [viewBefore, BitVec.toNat_inj, eq_comm (a := slots[i.val].score)]

theorem viewBefore_trans {slots : Vector Slot 12} {i j k : Fin 12} (hij : viewBefore slots i j = true)
    (hjk : viewBefore slots j k = true) : viewBefore slots i k = true := by
  simp only [viewBefore_iff, ← BitVec.toNat_inj] at *
  omega

theorem viewBefore_total {slots : Vector Slot 12} {i j : Fin 12} (h : i ≠ j) :
    viewBefore slots i j = true ∨ viewBefore slots j i = true := by
  simp only [viewBefore_iff, ← BitVec.toNat_inj]
  omega

/-- A list of slot indices in the order of R125. -/
abbrev ViewSorted (slots : Vector Slot 12) (l : List (Fin 12)) : Prop := l.Pairwise fun i j => viewBefore slots i j

theorem insertView_sorted {slots : Vector Slot 12} {i : Fin 12} {l : List (Fin 12)} (hl : ViewSorted slots l)
    (hi : i ∉ l) : ViewSorted slots (insertView slots i l) := by
  induction hl with
  | nil => simp [insertView]
  | @cons j rest hj hrest ih =>
    obtain ⟨hij, hirest⟩ := List.ne_and_not_mem_of_not_mem_cons hi
    simp only [insertView]
    split
    next hbefore =>
      refine .cons (fun k hk => ?_) (.cons hj hrest)
      rcases List.mem_cons.mp hk with rfl | hk
      · exact hbefore
      · exact viewBefore_trans hbefore (hj k hk)
    next hafter =>
      refine .cons (fun k hk => ?_) (ih hirest)
      rcases List.mem_cons.mp ((insertView_perm slots i rest).mem_iff.mp hk) with rfl | hk
      · exact (viewBefore_total hij).resolve_left hafter
      · exact hj k hk

theorem foldr_insertView_sorted (slots : Vector Slot 12) {l : List (Fin 12)} (hl : l.Nodup) :
    ViewSorted slots (l.foldr (insertView slots) []) ∧ (l.foldr (insertView slots) []).Perm l := by
  induction hl with
  | nil => simp
  | @cons i rest hi _ ih =>
    obtain ⟨hsorted, hperm⟩ := ih
    have hfresh : i ∉ rest.foldr (insertView slots) [] := fun h => hi i (hperm.mem_iff.mp h) rfl
    exact ⟨insertView_sorted hsorted hfresh, (insertView_perm slots i _).trans (hperm.cons i)⟩

/-- R125: the extra slots stand in the order of VIEW. -/
theorem sortedExtra_sorted (slots : Vector Slot 12) : ViewSorted slots (sortedExtra slots) :=
  (foldr_insertView_sorted slots (by decide)).1

theorem mem_sortedExtra {slots : Vector Slot 12} {i : Fin 12} : i ∈ sortedExtra slots ↔ 4 ≤ i.val :=
  (sortedExtra_perm slots).mem_iff.trans mem_extraSlots

theorem sortedExtra_length (slots : Vector Slot 12) : (sortedExtra slots).length = 8 :=
  (sortedExtra_perm slots).length_eq

/-! ## The entries of VIEW -/

/-- The slot that entry `k` of VIEW names. -/
def viewSlot (slots : Vector Slot 12) (k : Fin 12) : Fin 12 := (configuredSlots ++ sortedExtra slots)[k.val]?.getD 0

theorem viewOrder_toNat (slots : Vector Slot 12) (k : Fin 12) :
    (viewOrder slots)[k].toNat = (viewSlot slots k).val := by
  have hentry : (viewOrder slots)[k] = BitVec.ofNat 4 (viewSlot slots k).val := by simp [viewOrder, viewSlot]
  rw [hentry, BitVec.toNat_ofNat]
  omega

theorem viewSlot_configured (slots : Vector Slot 12) {k : Fin 12} (hk : k.val < 4) : viewSlot slots k = k := by
  rw [viewSlot, List.getElem?_append_left hk]
  revert k
  decide

theorem viewSlot_extra (slots : Vector Slot 12) {k : Fin 12} (hk : 4 ≤ k.val) :
    viewSlot slots k = (sortedExtra slots)[k.val - 4]'(by rw [sortedExtra_length]; omega) := by
  rw [viewSlot, List.getElem?_append_right hk, List.getElem?_eq_getElem]
  rfl

/-- Every extra slot stands among entries 4 to 11. -/
theorem exists_viewSlot_eq (slots : Vector Slot 12) {i : Fin 12} (hi : 4 ≤ i.val) :
    ∃ k : Fin 12, 4 ≤ k.val ∧ viewSlot slots k = i := by
  obtain ⟨n, hn, hentry⟩ := List.mem_iff_getElem.mp (mem_sortedExtra (slots := slots).mpr hi)
  have hlength := sortedExtra_length slots
  have hk : 4 ≤ (⟨n + 4, by omega⟩ : Fin 12).val := Nat.le_add_left 4 n
  exact ⟨_, hk, by simpa [viewSlot_extra slots hk] using hentry⟩

theorem viewSlot_before (slots : Vector Slot 12) {k l : Fin 12} (hk : 4 ≤ k.val) (hkl : k < l) :
    viewBefore slots (viewSlot slots k) (viewSlot slots l) = true := by
  rw [viewSlot_extra slots hk, viewSlot_extra slots (hk.trans hkl.le)]
  exact List.pairwise_iff_getElem.mp (sortedExtra_sorted slots) _ _ _ _ (by omega)

/-- Settles O47, entry by entry. -/
theorem viewResult : Obligations.ViewResult := fun s =>
  ⟨viewSlot s.slots, ⟨viewOrder s.slots, rfl, viewOrder_toNat s.slots⟩, fun _ => viewSlot_configured s.slots,
    fun _ => exists_viewSlot_eq s.slots, fun _ _ hk hkl => viewBefore_iff.mp (viewSlot_before s.slots hk hkl)⟩

/-! ## APPLYCFG -/

theorem configSlot_configured {valid : Bool} {cfgId : Vector Word 4} {i : Fin 12} {r : Slot} (h : i.val < 4) :
    configSlot valid cfgId i r = ⟨if valid then cfgId[i.val] else 0#32, 0#32, 0#32, 0#8, 0#32⟩ :=
  dif_pos h

theorem configSlot_extra {valid : Bool} {cfgId : Vector Word 4} {i : Fin 12} {r : Slot} (h : 4 ≤ i.val) :
    configSlot valid cfgId i r = r :=
  dif_neg (Nat.not_lt.mpr h)

/-- Settles O48: `configSlot` slot by slot. -/
theorem applycfgResult : Obligations.ApplycfgResult := fun imm s =>
  ⟨Vector.ofFn fun i => configSlot (validBit imm) s.cfgId i s.slots[i], rfl,
    fun j => by simp [configSlot_configured, validBit], fun i hi => by simp [configSlot_extra hi]⟩

end Sys2Proof.Machine
end

section
/-! The ids of the configured slots: APPLYCFG alone writes them (45_sensor_table R131, R132; 10_state R27 (f)). -/

namespace Sys2Proof.Machine

/-- No host write reaches a slot: SLOT is read-only (20_memory R43). -/
@[simp] theorem memWrite_slots (s : State) (index : WordIndex) (v : Word) : (memWrite s index v).slots = s.slots :=
  memWrite_keeps State.slots (fun _ r _ => by cases r <;> rfl) s index v

theorem DecodeExit.slots_eq {s t : State} (h : DecodeExit s t) : t.slots = s.slots := by
  cases h <;> simp

/-- A sighting writes no id, not even that of the slot it refreshes (R116). -/
theorem sightSlot_id (i j : Fin 12) (kind : TableKind) (s : State) :
    (sightSlot i kind s).slots[j].id = s.slots[j].id := by
  by_cases hj : j = i
  · subst hj
    simp [sightSlot, sighted]
  · exact congrArg Slot.id (slots_set_other hj _)

/-- DECAY clears extra slots only (R120). -/
theorem decaySlot_configured_id {i : Fin 12} (hi : i.val < 4) (r : Slot) : (decaySlot i r).id = r.id := by
  simp [decaySlot_eq, Nat.not_le.mpr hi]

/-- R131: a command other than APPLYCFG leaves the ids of the configured slots alone. -/
theorem CommandEffect.configured_id {s t : State} {c : Instr} (h : CommandEffect s c t)
    (hc : ∀ imm, c ≠ .applycfg imm) {i : Fin 12} (hi : i.val < 4) : t.slots[i].id = s.slots[i].id := by
  cases h with
  | decode hexit => simp [hexit.slots_eq]
  | onframeConfigured _ _ => exact sightSlot_id _ i _ s
  | onframeExtra _ _ _ => exact sightSlot_id _ i _ s
  | onframePlaced _ _ _ =>
    have hvictim : i ≠ victim s.slots := fun heq => by
      have := (victim_least s.slots).1
      omega
    exact congrArg Slot.id (slots_set_other hvictim _)
  | decay => simpa using decaySlot_configured_id hi s.slots[i]
  | applycfg imm => exact absurd rfl (hc imm)
  | _ => simp

/-- Settles O52, by the ways a step can go. -/
theorem configuredIdsChangeOnlyByApplycfg : Obligations.ConfiguredIdsChangeOnlyByApplycfg := by
  intro s t hstep hreset hcommand i hi
  cases stepEffect_of_step hstep with
  | idle _ => rfl
  | read _ => simp [hostRead]
  | command hport hdecode heffect =>
    have hother : ∀ imm, _ ≠ Instr.applycfg imm := fun imm heq => hcommand _ _ imm hport (heq ▸ hdecode)
    simpa using heffect.configured_id hother hi
  | illegal _ _ => simp
  | write _ _ => simp
  | reset hport => exact absurd hport (hreset _)

end Sys2Proof.Machine
end

section
/-! Every step ends, and the sticky flags only report (60_exceptions R137, R138). -/

namespace Sys2Proof.Machine

/-! ## No stuck state (R137) -/

/-- Settles O22: each way a step or a command can end leaves a next state. -/
theorem everyStepAnswersNextState : Obligations.EveryStepAnswersNextState := fun s =>
  ⟨(step_effect s).imp fun _ h => h.1, fun i => (exec_effect i s).imp fun _ h => h.1⟩

/-! ## The ways a command can end determine it (R63, R67) -/

/-- The converse of `commandEffect_of_exec`: the endings of a command exclude each other. -/
theorem CommandEffect.exec_eq {s t : State} {i : Instr} (h : CommandEffect s i t) : exec i s = .next t := by
  cases h with
  | classify _ => rfl
  | bitdecOverflow hbits => simp [exec, execBitdec, hbits]
  | bitdecOk hbits => exact exec_bitdec_of_fits hbits
  | findpreOk hpre => exact exec_findpre_of_some hpre
  | findpreNone hpre => simp [exec, execFindpre, hpre]
  | mandecOverflow hbytes => simp [exec, execMandec, hbytes]
  | mandecOk hbytes => exact exec_mandec_of_fits hbytes
  | csumOk hcsum => simp [exec, execCsum, hcsum]
  | csumFail hcsum => simp [exec, execCsum, hcsum]
  | decode hexit => exact exec_decode_iff.mpr hexit
  | onframeZero hid => exact exec_onframe_zero hid
  | onframeConfigured hid hmatch => exact exec_onframe_configured hid hmatch
  | onframeExtra hid hnone hmatch => exact exec_onframe_extra hid hnone hmatch
  | onframePlaced hid hconf hextra => simp [exec, execOnframe, hid, hconf, hextra]
  | decay => rfl
  | view => rfl
  | applycfg _ => rfl

/-! ## A command under other sticky flags (R138) -/

/-- What a command that leaves `t` leaves when it starts from the given flags: `t` with those flags, and the flag of
its result set if it has one. -/
def stickyAfter (t : State) (bit byte err : Bool) : State :=
  withSticky t (bit || t.result == .bitOverflow) (byte || t.result == .byteOverflow) err

section
variable {s : State} {bit byte err : Bool}

theorem stickyAfter_setResult_ok :
    stickyAfter (s.setResult .ok) bit byte err = (withSticky s bit byte err).setResult .ok := by
  simp [stickyAfter, withSticky, State.setResult]

/-- `raise` sets the flag of its code on top of whatever flags it finds; no command raises ILLEGAL_CMD. -/
theorem stickyAfter_raise {c : ResultCode} (h : c ≠ .illegalCmd) :
    stickyAfter (s.raise c) bit byte err = (withSticky s bit byte err).raise c := by
  simp [stickyAfter, withSticky, raise_eq, h]

end

/-- DECODE reads no flag: it depends on the capture, and its flags are the old ones and that of its result. -/
theorem exec_decode_withSticky {s t : State} (hexec : exec .decode s = .next t) (bit byte err : Bool) :
    exec .decode (withSticky s bit byte err) = .next (stickyAfter t bit byte err) := by
  calc exec .decode (withSticky s bit byte err)
      = .next (afterDecodeOf (withSticky s bit byte err) t) := exec_decode_same_capture (s := s) rfl rfl hexec
    _ = .next (stickyAfter (afterDecodeOf s t) bit byte err) := rfl
    _ = .next (stickyAfter t bit byte err) := by rw [← eq_afterDecodeOf_self hexec]

/-- Whatever flags a command starts from, it ends in the same way. -/
theorem CommandEffect.withSticky_stickyAfter {s t : State} {i : Instr} (h : CommandEffect s i t) (bit byte err : Bool) :
    CommandEffect (withSticky s bit byte err) i (stickyAfter t bit byte err) := by
  cases h with
  | classify d => rw [stickyAfter_setResult_ok]; exact .classify d
  | bitdecOverflow hbits => rw [stickyAfter_raise (by simp)]; exact .bitdecOverflow hbits
  | bitdecOk hbits => rw [stickyAfter_setResult_ok]; exact .bitdecOk hbits
  | findpreOk hpre => rw [stickyAfter_setResult_ok]; exact .findpreOk hpre
  | findpreNone hpre => rw [stickyAfter_raise (by simp)]; exact .findpreNone hpre
  | mandecOverflow hbytes => rw [stickyAfter_raise (by simp)]; exact .mandecOverflow hbytes
  | mandecOk hbytes => rw [stickyAfter_setResult_ok]; exact .mandecOk hbytes
  | csumOk hcsum => rw [stickyAfter_setResult_ok]; exact .csumOk hcsum
  | csumFail hcsum => rw [stickyAfter_raise (by simp)]; exact .csumFail hcsum
  | decode hexit =>
    exact commandEffect_of_exec (exec_decode_withSticky (exec_decode_iff.mpr hexit) bit byte err)
  | onframeZero hid => rw [stickyAfter_raise (by simp)]; exact .onframeZero hid
  | onframeConfigured hid hmatch =>
    rw [sightSlot, stickyAfter_setResult_ok]; exact .onframeConfigured hid hmatch
  | onframeExtra hid hnone hmatch =>
    rw [sightSlot, stickyAfter_setResult_ok]; exact .onframeExtra hid hnone hmatch
  | onframePlaced hid hconf hextra =>
    rw [placeSlot, stickyAfter_setResult_ok]; exact .onframePlaced hid hconf hextra
  | decay => rw [stickyAfter_setResult_ok]; exact .decay
  | view => rw [stickyAfter_setResult_ok]; exact .view
  | applycfg imm => rw [stickyAfter_setResult_ok]; exact .applycfg imm

/-! ## The flags over a step (R138) -/

/-- Every sticky flag set in `s` is set in `t`. -/
def StickyKept (s t : State) : Prop :=
  (s.ovfBit = true → t.ovfBit = true) ∧ (s.ovfByte = true → t.ovfByte = true) ∧ (s.cmdErr = true → t.cmdErr = true)

/-- `raise` sets flags and clears none. -/
theorem stickyKept_raise (s : State) (c : ResultCode) : StickyKept s (s.raise c) :=
  ⟨fun hbit => Bool.or_eq_true_iff.mpr (.inl hbit), fun hbyte => Bool.or_eq_true_iff.mpr (.inl hbyte),
    fun herr => Bool.or_eq_true_iff.mpr (.inl herr)⟩

/-- A command run from its own flags leaves them set: they are among those it ends with. -/
theorem CommandEffect.stickyKept {s t : State} {i : Instr} (h : CommandEffect s i t) : StickyKept s t := by
  have hsame : exec i s = .next (stickyAfter t s.ovfBit s.ovfByte s.cmdErr) := (h.withSticky_stickyAfter _ _ _).exec_eq
  have ht : t = stickyAfter t s.ovfBit s.ovfByte s.cmdErr := Host.Outcome.next.inj (h.exec_eq.symm.trans hsame)
  rw [ht]
  exact ⟨fun hbit => Bool.or_eq_true_iff.mpr (.inl hbit), fun hbyte => Bool.or_eq_true_iff.mpr (.inl hbyte), id⟩

/-- No host write reaches STATUS: it is read-only (20_memory R43). -/
theorem memWrite_stickyKept (s : State) (index : WordIndex) (v : Word) : StickyKept s (memWrite s index v) := by
  rw [memWrite_frame]
  exact ⟨id, id, id⟩

theorem StepEffect.stickyKept {s t : State} (h : StepEffect s t) (hreset : noResetNext s) : StickyKept s t := by
  cases h with
  | idle _ => exact ⟨id, id, id⟩
  | read _ => exact ⟨id, id, id⟩
  | command _ _ heffect => exact heffect.stickyKept
  | @illegal w rest _ _ _ => exact stickyKept_raise ((s.setPort rest).setLastOpc (opcodeField w)) .illegalCmd
  | @write index v rest _ _ => exact memWrite_stickyKept (s.setPort rest) index v
  | reset hport => exact absurd hport (hreset _)

/-- Settles O54: by the ways a step can go, and by the ways a command can end, which no flag decides. -/
theorem stickyFlagsOnlyAccumulate : Obligations.StickyFlagsOnlyAccumulate :=
  ⟨fun _ _ hstep hreset => (stepEffect_of_step hstep).stickyKept hreset,
    fun _ _ _ bit byte err hexec => ((commandEffect_of_exec hexec).withSticky_stickyAfter bit byte err).exec_eq⟩

end Sys2Proof.Machine
end

section
/-! Invariants of a step: what has to be shown of one, said once for all of them. -/

namespace Sys2Proof.Machine

/-- What a property of states has to meet so that every step keeps it: one field per way a step can go, the
bookkeeping around a command taken apart. -/
structure StepStable (P : State → Prop) : Prop where
  setPort : ∀ {s : State} (rest : List PortEvent), P s → P (s.setPort rest)
  setReadData : ∀ {s : State} (v : Word), P s → P (s.setReadData v)
  setLastOpc : ∀ {s : State} (opc : Byte), P s → P (s.setLastOpc opc)
  illegal : ∀ {s : State}, P s → P (s.raise .illegalCmd)
  write : ∀ {s : State} (index : WordIndex) (v : Word), P s → P (memWrite s index v)
  takeReset : ∀ s : State, P s.takeReset
  command : ∀ {s t : State} {i : Instr}, CommandEffect s i t → P s → P t

theorem StepStable.step {P : State → Prop} (h : StepStable P) {s t : State} (hs : P s) (hstep : step s = .next t) :
    P t := by
  cases stepEffect_of_step hstep with
  | idle _ => exact hs
  | read _ => exact h.setReadData _ (h.setPort _ hs)
  | command _ _ heffect => exact h.command heffect (h.setLastOpc _ (h.setPort _ hs))
  | illegal _ _ => exact h.illegal (h.setLastOpc _ (h.setPort _ hs))
  | write _ _ => exact h.write _ _ (h.setPort _ hs)
  | reset _ => exact h.takeReset _

end Sys2Proof.Machine
end

section
/-! The table invariants (10_state R27 (a) to (e)). -/

namespace Sys2Proof.Machine

/-! ## One slot at a time -/

/-- R27 (a) to (d) for the record `r` of slot `i`. -/
structure SlotInv (i : Fin 12) (r : Slot) : Prop where
  scoreBound : r.score.toNat ≤ 250
  emptyCleared : r.id = 0#32 → r = Slot.empty
  extraScored : 4 ≤ i.val → r.id ≠ 0#32 → 1 ≤ r.score.toNat
  scoreStep : r.score.toNat % 10 = 0

/-- R27 (e): no two extra slots hold the same id. -/
def ExtraDistinct (slots : Vector Slot 12) : Prop :=
  ∀ i j : Fin 12, 4 ≤ i.val → 4 ≤ j.val → i ≠ j → slots[i].id ≠ 0#32 → slots[i].id ≠ slots[j].id

theorem tableInv_iff {s : State} : TableInv s ↔ (∀ i : Fin 12, SlotInv i s.slots[i]) ∧ ExtraDistinct s.slots :=
  ⟨fun h => ⟨fun i => ⟨h.scoreBound i, h.emptyCleared i, h.extraScored i, h.scoreStep i⟩, h.extraDistinct⟩,
    fun ⟨hslot, hdistinct⟩ => ⟨fun i => (hslot i).scoreBound, fun i => (hslot i).emptyCleared,
      fun i => (hslot i).extraScored, fun i => (hslot i).scoreStep, hdistinct⟩⟩

/-- The invariants look at the slots only. -/
theorem TableInv.of_slots_eq {s t : State} (h : TableInv s) (hslots : t.slots = s.slots) : TableInv t := by
  rw [tableInv_iff] at *
  rwa [hslots]

theorem slotInv_empty (i : Fin 12) : SlotInv i Slot.empty :=
  ⟨by decide, fun _ => rfl, fun _ hid => absurd rfl hid, by decide⟩

/-- R116: a sighting of a slot that holds an id. -/
theorem SlotInv.sighted {i : Fin 12} {r : Slot} (h : SlotInv i r) (hid : r.id ≠ 0#32) (p t now : Word) :
    SlotInv i (sighted r p t now) := by
  have hscore : (scoreUp r.score).toNat = min (r.score.toNat + 10) 250 := scoreUp_toNat r.score
  have hstep := h.scoreStep
  refine ⟨?_, fun hzero => absurd hzero hid, fun _ _ => ?_, ?_⟩ <;> simp only [Machine.sighted, hscore] <;> omega

/-- R117: the record of a new id. -/
theorem slotInv_placed (i : Fin 12) {id : Word} (hid : id ≠ 0#32) (p t now : Word) :
    SlotInv i ⟨id, p, t, BitVec.ofNat 8 Config.scoreAdd, now⟩ :=
  ⟨by simp, fun hzero => absurd hzero hid, fun _ _ => by simp, by simp⟩

/-- R120: an extra slot is cleared before its score could reach 0. -/
theorem SlotInv.decaySlot {i : Fin 12} {r : Slot} (h : SlotInv i r) : SlotInv i (decaySlot i r) := by
  rw [decaySlot_eq]
  split
  next => exact slotInv_empty i
  next hkept =>
    have hbound := h.scoreBound
    have hstep := h.scoreStep
    have hscore : (BitVec.ofNat 8 (r.score.toNat - 10)).toNat = r.score.toNat - 10 := scoreDown_toNat r.score
    refine ⟨?_, fun hzero => ?_, fun hextra _ => ?_, ?_⟩
    · simp only [hscore]; omega
    · rw [h.emptyCleared hzero]; rfl
    · simp only [hscore]; omega
    · simp only [hscore]; omega

/-- R131: a configured slot starts again from its id. -/
theorem SlotInv.configSlot {i : Fin 12} {r : Slot} (h : SlotInv i r) (valid : Bool) (cfgId : Vector Word 4) :
    SlotInv i (configSlot valid cfgId i r) := by
  by_cases hi : i.val < 4
  · rw [configSlot_configured hi]
    refine ⟨by simp, fun hzero => ?_, fun hextra => by omega, by simp⟩
    simp only at hzero
    rw [hzero]
    rfl
  · rwa [configSlot_extra (Nat.not_lt.mp hi)]

/-! ## The commands that write slots -/

/-- A write of slot `i` that leaves its record well formed and repeats no id of another extra slot. -/
theorem TableInv.set {s t : State} (h : TableInv s) {i : Fin 12} {r : Slot} (hslots : t.slots = s.slots.set i.val r)
    (hr : SlotInv i r) (hfresh : ∀ j : Fin 12, 4 ≤ i.val → 4 ≤ j.val → j ≠ i → s.slots[j].id ≠ r.id) :
    TableInv t := by
  rw [tableInv_iff] at *
  obtain ⟨hslot, hdistinct⟩ := h
  have hsame : t.slots[i] = r := by simp [hslots]
  have hother : ∀ j : Fin 12, j ≠ i → t.slots[j] = s.slots[j] := fun j hj => by rw [hslots, slots_set_other hj]
  refine ⟨fun j => ?_, fun j k hj hk hjk hid => ?_⟩
  · by_cases hji : j = i
    · subst hji; rwa [hsame]
    · rw [hother j hji]; exact hslot j
  · by_cases hji : j = i
    · subst hji
      rw [hsame, hother k hjk.symm]
      exact (hfresh k hj hk hjk.symm).symm
    · rw [hother j hji] at hid ⊢
      by_cases hki : k = i
      · subst hki
        rw [hsame]
        exact hfresh j hk hj hji
      · rw [hother k hki]
        exact hdistinct j k hj hk hjk hid

/-- A command that rewrites the slots one by one, an extra slot keeping its id or losing it. -/
theorem TableInv.map {s t : State} (h : TableInv s) {f : Fin 12 → Slot → Slot}
    (hslots : t.slots = Vector.ofFn fun i => f i s.slots[i])
    (hf : ∀ (i : Fin 12) (r : Slot), SlotInv i r → SlotInv i (f i r))
    (hid : ∀ (i : Fin 12) (r : Slot), 4 ≤ i.val → (f i r).id ≠ 0#32 → (f i r).id = r.id) : TableInv t := by
  rw [tableInv_iff] at *
  obtain ⟨hslot, hdistinct⟩ := h
  have hat : ∀ i : Fin 12, t.slots[i] = f i s.slots[i] := fun i => by simp [hslots]
  refine ⟨fun i => hat i ▸ hf i _ (hslot i), fun i j hi hj hij hne heq => ?_⟩
  have hne' := heq ▸ hne
  rw [hat] at hne hne'
  rw [hat, hat, hid i _ hi hne, hid j _ hj hne'] at heq
  exact hdistinct i j hi hj hij (hid i _ hi hne ▸ hne) heq

/-- R116: a sighting writes no id. -/
theorem TableInv.sightSlot {s : State} (h : TableInv s) {i : Fin 12} (hid : s.slots[i].id ≠ 0#32) (kind : TableKind) :
    TableInv (sightSlot i kind s) := by
  refine h.set (r := sighted s.slots[i] s.argPressure s.argTemp s.argNow) rfl
    (((tableInv_iff.mp h).1 i).sighted hid _ _ _) fun j hi hj hji heq => ?_
  exact h.extraDistinct i j hi hj hji.symm hid heq.symm

/-- R27 for every command: ONFRAME places an id only where no extra slot holds it. -/
theorem CommandEffect.keeps_tableInv {s t : State} {i : Instr} (heffect : CommandEffect s i t) (h : TableInv s) :
    TableInv t := by
  cases heffect with
  | decode hexit => exact h.of_slots_eq (by simp [hexit.slots_eq])
  | onframeConfigured hid hmatch => exact h.sightSlot ((matchIn_some hmatch).2 ▸ hid) _
  | onframeExtra hid _ hmatch => exact h.sightSlot ((matchIn_some hmatch).2 ▸ hid) _
  | onframePlaced hid _ hextra =>
    exact h.set rfl (slotInv_placed _ hid _ _ _) fun j _ hj _ => matchIn_none.mp hextra j (mem_extraSlots.mpr hj)
  | decay =>
    refine h.map rfl (fun _ _ hr => hr.decaySlot) fun i r _ hid => ?_
    rw [decaySlot_eq] at hid ⊢
    split
    next hcleared => rw [if_pos hcleared] at hid; exact absurd rfl hid
    next => rfl
  | applycfg imm =>
    exact h.map rfl (fun _ _ hr => hr.configSlot _ _) fun i r hi _ => by rw [configSlot_extra hi]
  | _ => exact h.of_slots_eq (by simp)

theorem tableInv_reset : TableInv State.reset :=
  tableInv_iff.mpr ⟨fun i => by simpa [State.reset] using slotInv_empty i,
    fun i _ _ _ _ hid => absurd (by simp [State.reset, Slot.empty]) hid⟩

theorem tableInv_stable : StepStable TableInv where
  setPort _ h := h.of_slots_eq rfl
  setReadData _ h := h.of_slots_eq rfl
  setLastOpc _ h := h.of_slots_eq rfl
  illegal h := h.of_slots_eq rfl
  write _ _ h := h.of_slots_eq (memWrite_slots _ _ _)
  takeReset _ := tableInv_reset.of_slots_eq rfl
  command := CommandEffect.keeps_tableInv

/-- Settles O55: the table is written by ONFRAME, DECAY, APPLYCFG and reset alone. -/
theorem stepKeepsTableInvariants : Obligations.StepKeepsTableInvariants := fun _ _ => tableInv_stable.step

end Sys2Proof.Machine
end

section
/-! FRAME is all zero or has a right checksum (10_state R21; 43_checksum R100). -/

namespace Sys2Proof.Machine

/-- The invariant looks at FRAME and FRAMEVALID only. -/
theorem FrameInv.of_eq {s t : State} (h : FrameInv s) (hframe : t.frame = s.frame)
    (hvalid : t.frameValid = s.frameValid) : FrameInv t :=
  ⟨by rw [hframe, hvalid]; exact h.cleared, by rw [hframe, hvalid]; exact h.checked⟩

/-- A cleared FRAME meets the invariant. -/
theorem frameInv_of_cleared {s : State} (hframe : s.frame = zeroFrame) (hvalid : s.frameValid = false) :
    FrameInv s :=
  ⟨fun _ j => by simp [hframe, zeroFrame], fun htrue => by simp [hvalid] at htrue⟩

/-- A valid sequence of bytes is eight bytes, their XOR, and a rest that takes no part (R100). -/
theorem exists_bytes_of_csumValid {bytes : List Byte} (h : csumValid bytes = true) :
    ∃ b0 b1 b2 b3 b4 b5 b6 b7 c tail, bytes = b0 :: b1 :: b2 :: b3 :: b4 :: b5 :: b6 :: b7 :: c :: tail
      ∧ b0 ^^^ b1 ^^^ b2 ^^^ b3 ^^^ b4 ^^^ b5 ^^^ b6 ^^^ b7 = c := by
  match bytes with
  | b0 :: b1 :: b2 :: b3 :: b4 :: b5 :: b6 :: b7 :: c :: tail =>
    rw [checksumIsXorOfEight.2] at h
    exact ⟨b0, b1, b2, b3, b4, b5, b6, b7, c, tail, rfl, of_decide_eq_true h⟩
  | [] | [_] | [_, _] | [_, _, _] | [_, _, _, _] | [_, _, _, _, _] | [_, _, _, _, _, _] | [_, _, _, _, _, _, _]
  | [_, _, _, _, _, _, _, _] => cases h

/-- The frame DECODE takes from a valid sequence has a right checksum (R105 step 7). -/
theorem frameOf_checked {bytes : List Byte} (h : csumValid bytes = true) :
    (frameOf bytes)[8] = (frameOf bytes)[0] ^^^ (frameOf bytes)[1] ^^^ (frameOf bytes)[2] ^^^ (frameOf bytes)[3]
      ^^^ (frameOf bytes)[4] ^^^ (frameOf bytes)[5] ^^^ (frameOf bytes)[6] ^^^ (frameOf bytes)[7] := by
  obtain ⟨b0, b1, b2, b3, b4, b5, b6, b7, c, tail, rfl, hxor⟩ := exists_bytes_of_csumValid h
  simp [frameOf, hxor]

/-- DECODE leaves a cleared FRAME as it is, or the frame of a valid sequence. -/
theorem DecodeExit.keeps_frameInv {s t : State} (hexit : DecodeExit s t) (h : FrameInv s) : FrameInv t := by
  cases hexit with
  | ok _ _ _ hcsum => exact ⟨fun hfalse => by simp at hfalse, fun _ => frameOf_checked hcsum⟩
  | _ => exact h.of_eq (by simp) (by simp)

theorem CommandEffect.keeps_frameInv {s t : State} {i : Instr} (heffect : CommandEffect s i t) (h : FrameInv s) :
    FrameInv t := by
  cases heffect with
  | decode hexit => exact hexit.keeps_frameInv (frameInv_of_cleared rfl rfl)
  | _ => exact h.of_eq (by simp [sightSlot, placeSlot]) (by simp [sightSlot, placeSlot])

theorem frameInv_reset : FrameInv State.reset := frameInv_of_cleared rfl rfl

theorem frameInv_stable : StepStable FrameInv where
  setPort _ h := h.of_eq rfl rfl
  setReadData _ h := h.of_eq rfl rfl
  setLastOpc _ h := h.of_eq rfl rfl
  illegal h := h.of_eq rfl rfl
  write index v h := by rw [memWrite_frame]; exact h.of_eq rfl rfl
  takeReset _ := frameInv_reset.of_eq rfl rfl
  command := CommandEffect.keeps_frameInv

/-- Settles O57: DECODE alone writes FRAME. -/
theorem stepKeepsFrameChecked : Obligations.StepKeepsFrameChecked := fun _ _ => frameInv_stable.step

end Sys2Proof.Machine
end

section
/-! The bounds of the counters (10_state R22; 44_frame_decode R106). -/

namespace Sys2Proof.Machine

/-- The invariant looks at the four counters only. -/
theorem StatsInv.of_sameCounters {s t : State} (h : StatsInv s) (hsame : SameCounters s t) : StatsInv t := by
  obtain ⟨hmax, hpre, hok, hfail⟩ := hsame
  exact ⟨by rw [hmax]; exact h.maxTimings, by rw [hpre, hok, hfail]; exact h.preambleCounts⟩

/-- COUNT is an 8-bit number, so noting it keeps the bound. -/
theorem StatsInv.noteTimings {s : State} (h : StatsInv s) : StatsInv s.noteTimings := by
  have hmax := h.maxTimings
  have hcount := s.count.isLt
  exact ⟨by rw [noteTimings_toNat]; omega, h.preambleCounts⟩

/-- DECODE counts a preamble with every checksum outcome it counts (R106). -/
theorem DecodeExit.keeps_statsInv {s t : State} (hexit : DecodeExit s t) (h : StatsInv s) : StatsInv t := by
  obtain ⟨hmax, hpre, hok, hfail⟩ := hexit.counters
  refine ⟨hmax ▸ h.maxTimings, fun hbelow => ?_⟩
  have hcounts := h.preambleCounts
  obtain hresult | hresult | hresult | hresult | hresult := hexit.result <;>
    simp only [hresult, reduceCtorEq, or_true, true_or, or_self, if_true, if_false] at hpre hok hfail <;> omega

theorem CommandEffect.keeps_statsInv {s t : State} {i : Instr} (heffect : CommandEffect s i t) (h : StatsInv s) :
    StatsInv t := by
  by_cases hi : i = .decode
  · subst hi
    cases heffect with
    | decode hexit => exact hexit.keeps_statsInv (h.noteTimings.of_sameCounters ⟨rfl, rfl, rfl, rfl⟩)
  · exact h.of_sameCounters (heffect.sameCounters hi)

theorem statsInv_reset : StatsInv State.reset := ⟨by decide, fun _ => by decide⟩

theorem statsInv_stable : StepStable StatsInv where
  setPort _ h := h.of_sameCounters ⟨rfl, rfl, rfl, rfl⟩
  setReadData _ h := h.of_sameCounters ⟨rfl, rfl, rfl, rfl⟩
  setLastOpc _ h := h.of_sameCounters ⟨rfl, rfl, rfl, rfl⟩
  illegal h := h.of_sameCounters ⟨rfl, rfl, rfl, rfl⟩
  write index v h := h.of_sameCounters (memWrite_sameCounters _ index v)
  takeReset _ := statsInv_reset.of_sameCounters ⟨rfl, rfl, rfl, rfl⟩
  command := CommandEffect.keeps_statsInv

/-- Settles O58: DECODE alone moves the counters, by its result. -/
theorem stepKeepsCounterBounds : Obligations.StepKeepsCounterBounds := fun _ _ => statsInv_stable.step

end Sys2Proof.Machine
end

section
/-! STATUS, TBLRES and VIEW hold what a command can leave (10_state R13, R28, R29; 93_implementation_defined U7). -/

namespace Sys2Proof.Machine

/-- TBLRES names a slot that its KIND allows, and EVICT goes with KIND 3 (R29). -/
structure TblResInv (r : TableResult) : Prop where
  nothingSlot : r.kind = .nothing → r.slot = 0#4
  configuredSlot : r.kind = .configured → r.slot.toNat < 4
  extraSlot : r.kind = .extra ∨ r.kind = .placed → 4 ≤ r.slot.toNat ∧ r.slot.toNat < 12
  evictPlaced : r.evict = true → r.kind = .placed

/-- An overflow or illegal result has its sticky flag set (R13). -/
structure FlagInv (s : State) : Prop where
  bitFlag : s.result = .bitOverflow → s.ovfBit = true
  byteFlag : s.result = .byteOverflow → s.ovfByte = true
  errorFlag : s.result = .illegalCmd → s.cmdErr = true

/-- VIEW names slots (R28). -/
def ViewInv (v : Vector (BitVec 4) 12) : Prop := ∀ k : Fin 12, v[k].toNat < 12

theorem reportInv_iff {s : State} : ReportInv s ↔ FlagInv s ∧ TblResInv s.tblRes ∧ ViewInv s.view :=
  ⟨fun h => ⟨⟨h.bitFlag, h.byteFlag, h.errorFlag⟩,
      ⟨h.nothingSlot, h.configuredSlot, h.extraSlot, h.evictPlaced⟩, h.viewEntries⟩,
    fun ⟨hflag, htbl, hview⟩ => ⟨hflag.bitFlag, hflag.byteFlag, hflag.errorFlag,
      htbl.nothingSlot, htbl.configuredSlot, htbl.extraSlot, htbl.evictPlaced, hview⟩⟩

/-! ## Every command ends in OK or in `raise` -/

theorem flagInv_setResult_ok (s : State) : FlagInv (s.setResult .ok) :=
  ⟨nofun, nofun, nofun⟩

/-- `raise` sets the sticky flag of its code (60_exceptions R136). -/
theorem flagInv_raise (c : ResultCode) (s : State) : FlagInv (s.raise c) := by
  rw [raise_eq]
  refine ⟨?_, ?_, ?_⟩ <;> rintro rfl <;> simp

theorem DecodeExit.flagInv {s t : State} (h : DecodeExit s t) : FlagInv t := by
  cases h with
  | ok _ _ _ _ => exact flagInv_setResult_ok _
  | _ => exact flagInv_raise _ _

theorem CommandEffect.flagInv {s t : State} {i : Instr} (h : CommandEffect s i t) : FlagInv t := by
  cases h with
  | decode hexit => exact hexit.flagInv
  | bitdecOverflow _ | findpreNone _ | mandecOverflow _ | csumFail _ | onframeZero _ => exact flagInv_raise _ _
  | _ => exact flagInv_setResult_ok _

/-! ## TBLRES and VIEW -/

theorem DecodeExit.reports_eq {s t : State} (h : DecodeExit s t) : t.tblRes = s.tblRes ∧ t.view = s.view := by
  cases h <;> simp

theorem slot_toNat (i : Fin 12) : (BitVec.ofNat 4 i.val).toNat = i.val := by
  rw [BitVec.toNat_ofNat]
  omega

/-- ONFRAME names the slot it wrote, configured or extra as its KIND says (R117, R118). -/
theorem CommandEffect.keeps_tblResInv {s t : State} {i : Instr} (heffect : CommandEffect s i t)
    (h : TblResInv s.tblRes) : TblResInv t.tblRes := by
  cases heffect with
  | decode hexit => simpa [hexit.reports_eq.1] using h
  | onframeZero _ => exact ⟨fun _ => rfl, by simp, by simp, by simp⟩
  | @onframeConfigured j _ hmatch =>
    have hj := mem_configuredSlots.mp (matchIn_some hmatch).1
    exact ⟨by simp [sightSlot], fun _ => (slot_toNat j).trans_lt hj, by simp [sightSlot], by simp [sightSlot]⟩
  | @onframeExtra j _ _ hmatch =>
    have hj := mem_extraSlots.mp (matchIn_some hmatch).1
    exact ⟨by simp [sightSlot], by simp [sightSlot], fun _ => ⟨hj.trans_eq (slot_toNat j).symm,
      (slot_toNat j).trans_lt j.isLt⟩, by simp [sightSlot]⟩
  | onframePlaced _ _ _ =>
    have hvictim := (victim_least s.slots).1
    exact ⟨by simp [placeSlot], by simp [placeSlot], fun _ => ⟨hvictim.trans_eq (slot_toNat _).symm,
      (slot_toNat _).trans_lt (victim s.slots).isLt⟩, fun _ => rfl⟩
  | _ => simpa using h

theorem viewInv_viewOrder (slots : Vector Slot 12) : ViewInv (viewOrder slots) := fun k =>
  (viewOrder_toNat slots k).trans_lt (viewSlot slots k).isLt

theorem CommandEffect.keeps_viewInv {s t : State} {i : Instr} (heffect : CommandEffect s i t) (h : ViewInv s.view) :
    ViewInv t.view := by
  cases heffect with
  | decode hexit => simpa [hexit.reports_eq.2] using h
  | view => exact viewInv_viewOrder s.slots
  | _ => simpa [sightSlot, placeSlot] using h

theorem CommandEffect.keeps_reportInv {s t : State} {i : Instr} (heffect : CommandEffect s i t) (h : ReportInv s) :
    ReportInv t := by
  rw [reportInv_iff] at *
  obtain ⟨_, htbl, hview⟩ := h
  exact ⟨heffect.flagInv, heffect.keeps_tblResInv htbl, heffect.keeps_viewInv hview⟩

theorem reportInv_reset : ReportInv State.reset :=
  reportInv_iff.mpr ⟨⟨by decide, by decide, by decide⟩, ⟨by decide, by decide, by decide, by decide⟩,
    fun k => by simp [State.reset]⟩

/-- The parts of a state that the invariant looks at, taken over unchanged. -/
theorem ReportInv.of_eq {s t : State} (h : ReportInv s) (hresult : t.result = s.result) (hbit : t.ovfBit = s.ovfBit)
    (hbyte : t.ovfByte = s.ovfByte) (herr : t.cmdErr = s.cmdErr) (htbl : t.tblRes = s.tblRes)
    (hview : t.view = s.view) : ReportInv t := by
  rw [reportInv_iff] at *
  obtain ⟨hflag, hreports⟩ := h
  rw [htbl, hview]
  exact ⟨⟨by rw [hresult, hbit]; exact hflag.bitFlag, by rw [hresult, hbyte]; exact hflag.byteFlag,
    by rw [hresult, herr]; exact hflag.errorFlag⟩, hreports⟩

theorem reportInv_stable : StepStable ReportInv where
  setPort _ h := h.of_eq rfl rfl rfl rfl rfl rfl
  setReadData _ h := h.of_eq rfl rfl rfl rfl rfl rfl
  setLastOpc _ h := h.of_eq rfl rfl rfl rfl rfl rfl
  illegal h := reportInv_iff.mpr ⟨flagInv_raise _ _, (reportInv_iff.mp h).2⟩
  write index v h := by rw [memWrite_frame]; exact h.of_eq rfl rfl rfl rfl rfl rfl
  takeReset _ := reportInv_reset.of_eq rfl rfl rfl rfl rfl rfl
  command := CommandEffect.keeps_reportInv

/-- Settles O59: a command sets the flag of its result, and what it leaves in TBLRES and VIEW names slots. -/
theorem stepKeepsReportsInRange : Obligations.StepKeepsReportsInRange := fun _ _ => reportInv_stable.step

/-- Settles O60, invariant by invariant: the base case of O55 to O59. -/
theorem resetMeetsInvariants : Obligations.ResetMeetsInvariants :=
  ⟨tableInv_reset, bufferInv_reset, frameInv_reset, statsInv_reset, reportInv_reset⟩

end Sys2Proof.Machine
end

section
/-! What captures of pulses stand for, and which bit sequences have one (40_pulse_bit_recovery R84). -/

namespace Sys2Proof.Machine

/-- Settles O25: the loop of R82 in closed form, from the empty buffer. -/
theorem bitRecoveryClosedForm : Obligations.BitRecoveryClosedForm := bitdec_eq_rawBits

/-! ## The first pulse of a capture (R84 (a), (c)) -/

/-- An Invalid pulse stands for no bit and toggles the level. -/
theorem rawBits_cons_invalid {d : Duration} (h : classify d = .invalid) (rest : List Duration) (level : Bool) :
    rawBits (d :: rest) level = rawBits rest (!level) := by
  rw [rawBits_cons, h]
  rfl

theorem rawBits_cons_short {d : Duration} (h : classify d = .short) (rest : List Duration) (level : Bool) :
    rawBits (d :: rest) level = level :: rawBits rest (!level) := by
  rw [rawBits_cons, h]
  rfl

theorem rawBits_cons_long {d : Duration} (h : classify d = .long) (rest : List Duration) (level : Bool) :
    rawBits (d :: rest) level = level :: level :: rawBits rest (!level) := by
  rw [rawBits_cons, h]
  rfl

/-! ## A capture of every bit sequence (R84 (d)) -/

/-- A capture of bits from one level gives one from any level, with at most one more pulse. -/
theorem exists_capture_from_level {bits : List Bool} {pulses : List Duration} {level : Bool}
    (h : rawBits pulses level = bits) (level' : Bool) :
    ∃ pulses' : List Duration, pulses'.length ≤ pulses.length + 1 ∧ rawBits pulses' level' = bits := by
  by_cases hlevel : level' = level
  · exact ⟨pulses, Nat.le_succ _, hlevel ▸ h⟩
  · refine ⟨0#16 :: pulses, le_rfl, ?_⟩
    rw [rawBits_cons_invalid rfl, Bool.eq_not_of_ne hlevel, Bool.not_not, h]

/-- A Short pulse for a single bit, a Long one for a pair of equal bits; the pulse saved by a pair pays for the Invalid
pulse that turns the level back when the run goes on. -/
theorem exists_capture (bits : List Bool) :
    ∃ pulses : List Duration, pulses.length ≤ bits.length ∧ rawBits pulses (bits.headD true) = bits := by
  induction bits using runClasses.induct with
  | case1 => exact ⟨[], le_rfl, rfl⟩
  | case2 a => exact ⟨[20#16], le_rfl, rawBits_cons_short rfl [] a⟩
  | case3 a rest ih =>
    obtain ⟨pulses, hlength, hbits⟩ := ih
    obtain ⟨pulses', hlength', hbits'⟩ := exists_capture_from_level hbits (!a)
    refine ⟨80#16 :: pulses', ?_, (rawBits_cons_long rfl pulses' a).trans (by rw [hbits'])⟩
    simp only [List.length_cons]
    omega
  | case4 a b rest hab ih =>
    obtain ⟨pulses, hlength, hbits⟩ := ih
    have hb : b = !a := Bool.eq_not_of_ne (Ne.symm hab)
    refine ⟨20#16 :: pulses, Nat.succ_le_succ hlength, (rawBits_cons_short rfl pulses a).trans ?_⟩
    rw [← hb]
    exact congrArg (a :: ·) hbits

/-- Settles O26: a sequence that fits BITBUF is kept whole. -/
theorem everyBitSequenceHasACapture : Obligations.EveryBitSequenceHasACapture := by
  intro bits hfits
  obtain ⟨pulses, hlength, hbits⟩ := exists_capture bits
  refine ⟨pulses, bits.headD true, hlength, ?_⟩
  rw [bitdec_eq_rawBits, hbits, List.take_of_length_le hfits, decide_eq_false (Nat.not_lt.mpr hfits)]

/-! ## The starting level (R84 (e)) -/

/-- The starting level only inverts the raw bits. -/
theorem rawBits_not (pulses : List Duration) (level : Bool) :
    rawBits pulses (!level) = (rawBits pulses level).map (!·) := by
  induction pulses generalizing level with
  | nil => rfl
  | cons d rest ih => simp [rawBits_cons, ← ih]

theorem bitdec_not (pulses : List Duration) (level : Bool) :
    bitdec pulses (!level) = ((bitdec pulses level).1.map (!·), (bitdec pulses level).2) := by
  simp only [bitdec_eq_rawBits, rawBits_not, List.map_take, List.length_map]

/-! ## Captures without Invalid pulses (R84 (f)) -/

/-- No three bits in a row are equal. -/
def NoTriple (bits : List Bool) : Prop :=
  ∀ (k : Nat) (b : Bool), ¬ (bits[k]? = some b ∧ bits[k + 1]? = some b ∧ bits[k + 2]? = some b)

theorem noTriple_nil : NoTriple [] := fun k b => by simp

/-- A bit in front makes no triple when two equal ones do not follow it. -/
theorem NoTriple.cons {a : Bool} {bits : List Bool} (h : NoTriple bits)
    (hhead : ¬ (bits[0]? = some a ∧ bits[1]? = some a)) : NoTriple (a :: bits) := by
  rintro (_ | k) b ⟨h0, h1, h2⟩
  · cases Option.some.inj h0
    exact hhead ⟨h1, h2⟩
  · exact h k b ⟨h0, h1, h2⟩

theorem NoTriple.take {bits : List Bool} (h : NoTriple bits) (n : Nat) : NoTriple (bits.take n) := by
  have hbit {k : Nat} {b : Bool} (hk : (bits.take n)[k]? = some b) : bits[k]? = some b := by
    rw [List.getElem?_take] at hk
    split at hk
    · exact hk
    · cases hk
  rintro k b ⟨h0, h1, h2⟩
  exact h k b ⟨hbit h0, hbit h1, hbit h2⟩

theorem classify_of_valid {d : Duration} (h : 20 ≤ d.toNat) : classify d = .short ∨ classify d = .long := by
  simp only [classify, Config.tMin, Nat.not_lt.mpr h, if_false]
  split <;> simp

/-- The first bit of a capture without Invalid pulses is at the starting level. -/
theorem rawBits_head_ne {pulses : List Duration} (hvalid : ∀ d ∈ pulses, 20 ≤ d.toNat) (level : Bool) :
    (rawBits pulses (!level))[0]? ≠ some level := by
  cases pulses with
  | nil => simp
  | cons d rest =>
    rw [rawBits_cons]
    rcases classify_of_valid (hvalid d List.mem_cons_self) with hclass | hclass <;>
      simp [hclass, PulseClass.reps, List.replicate_succ]

theorem noTriple_rawBits {pulses : List Duration} (hvalid : ∀ d ∈ pulses, 20 ≤ d.toNat) (level : Bool) :
    NoTriple (rawBits pulses level) := by
  induction pulses generalizing level with
  | nil => exact noTriple_nil
  | cons d rest ih =>
    obtain ⟨hd, hrest⟩ := List.forall_mem_cons.mp hvalid
    have hnext := rawBits_head_ne hrest level
    have hshort : NoTriple (level :: rawBits rest (!level)) := (ih hrest _).cons fun hpair => hnext hpair.1
    rw [rawBits_cons]
    rcases classify_of_valid hd with hclass | hclass <;> rw [hclass]
    · exact hshort
    · exact hshort.cons fun hpair => hnext hpair.2

/-- Settles O27: both are facts of the raw bits, of which BITBUF holds the first 200. -/
theorem bitRecoveryLevelProperties : Obligations.BitRecoveryLevelProperties := by
  refine fun pulses level => ⟨bitdec_not pulses level, fun hvalid => ?_⟩
  rw [bitdec_eq_rawBits]
  exact (noTriple_rawBits hvalid level).take 200

end Sys2Proof.Machine
end

section
/-! The search machine with two counters answers what the search of R90 answers (41_preamble_sync R91). -/

namespace Sys2Proof.Machine

/-- The preamble stands at `c` when its sixteen bits do. -/
theorem preambleAt_iff {bits : List Bool} {c : Nat} :
    PreambleAt bits c ↔ ∀ m < 16, bits[c + m]? = Config.preamble[m]? := by
  have hlength : Config.preamble.length = 16 := rfl
  change (bits.drop c).take 16 = Config.preamble ↔ _
  constructor
  · intro heq m hm
    rw [← heq, List.getElem?_take_of_lt hm, List.getElem?_drop]
  · refine fun hbits => List.ext_getElem? fun m => ?_
    by_cases hm : m < 16
    · rw [List.getElem?_take_of_lt hm, List.getElem?_drop, hbits m hm]
    · rw [List.getElem?_take_eq_none (not_lt.mp hm), List.getElem?_eq_none (by omega)]

/-- With no preamble before `candidate`, its first `matched` bits read and fuel left for sixteen moves on each further
candidate, the machine ends where the search does. -/
theorem searchMachine_eq_findpre {bits : List Bool} {fuel candidate matched : Nat} (hmatched : matched < 16)
    (hcandidate : candidate ≤ bits.length) (hfuel : 16 * (bits.length + 1 - candidate) ≤ fuel + matched)
    (hbefore : ∀ c < candidate, ¬ PreambleAt bits c)
    (hread : ∀ m < matched, bits[candidate + m]? = Config.preamble[m]?) :
    searchMachine bits fuel candidate matched = findpre bits := by
  induction fuel generalizing candidate matched with
  | zero => omega
  | succ fuel ih =>
    rw [searchMachine]
    split
    next hinside =>
      split
      next hbit =>
        have hread' : ∀ m < matched + 1, bits[candidate + m]? = Config.preamble[m]? := fun m hm => by
          rcases Nat.lt_succ_iff_lt_or_eq.mp hm with hlt | rfl
          · exact hread m hlt
          · exact hbit
        split
        next hall =>
          have hat : PreambleAt bits candidate := preambleAt_iff.mpr (hall ▸ hread')
          exact (findpre_of_first ⟨hat, hbefore⟩).symm
        next hmore => exact ih (by omega) hcandidate (by omega) hbefore hread'
      next hmismatch =>
        have hnot : ¬ PreambleAt bits candidate := fun hat => hmismatch (preambleAt_iff.mp hat matched hmatched)
        refine ih (by decide) (by omega) (by omega) (fun c hc => ?_) (fun m hm => absurd hm m.not_lt_zero)
        rcases Nat.lt_succ_iff_lt_or_eq.mp hc with hlt | rfl
        · exact hbefore c hlt
        · exact hnot
    next houtside =>
      refine (findpre_of_none fun c hat => ?_).symm
      have hlength := hat.add_le_length
      exact hbefore c (by omega) hat

/-- Settles O30, from candidate 0 with nothing matched. -/
theorem searchMachineAgreesWithFindpre : Obligations.SearchMachineAgreesWithFindpre := fun _ _ hfuel =>
  searchMachine_eq_findpre (by decide) (Nat.zero_le _) (by simpa using hfuel) (fun c hc => absurd hc c.not_lt_zero)
    fun m hm => absurd hm m.not_lt_zero

end Sys2Proof.Machine
end

section
/-! What the checksum tells apart (43_checksum R102). -/

namespace Sys2Proof.Machine

theorem foldl_xor (bytes : List Byte) (acc : Byte) : bytes.foldl (· ^^^ ·) acc = acc ^^^ xorBytes bytes := by
  rw [xorBytes, ← List.foldl_assoc (op := fun a b : Byte => a ^^^ b), BitVec.xor_zero]

theorem xorBytes_cons (b : Byte) (bytes : List Byte) : xorBytes (b :: bytes) = b ^^^ xorBytes bytes := by
  rw [xorBytes, List.foldl_cons, BitVec.zero_xor, foldl_xor]

/-- Changing one byte changes the XOR by the same bits. -/
theorem xorBytes_set {bytes : List Byte} {j : Nat} (hj : j < bytes.length) (m : Byte) :
    xorBytes (bytes.set j (bytes.getD j 0#8 ^^^ m)) = xorBytes bytes ^^^ m := by
  induction bytes generalizing j with
  | nil => simp at hj
  | cons b rest ih =>
    cases j with
    | zero =>
      simp only [List.set_cons_zero, List.getD_cons_zero, xorBytes_cons]
      ac_rfl
    | succ j =>
      simp only [List.set_cons_succ, List.getD_cons_succ, xorBytes_cons, ih (Nat.lt_of_succ_lt_succ hj),
        BitVec.xor_assoc]

theorem xorBytes_concat (bytes : List Byte) (b : Byte) : xorBytes (bytes ++ [b]) = xorBytes bytes ^^^ b :=
  List.foldl_concat _ _ _ _

/-- Nine bytes are valid when the XOR of all nine is zero. -/
theorem csumValid_nine {bytes : List Byte} (h : bytes.length = 9) :
    csumValid bytes = true ↔ xorBytes bytes = 0#8 := by
  obtain ⟨payload, c, rfl⟩ := (List.eq_nil_or_concat' bytes).resolve_left (by rintro rfl; simp at h)
  have hpayload : payload.length = 8 := by simpa using h
  rw [csumValid_payload hpayload, decide_eq_true_iff, xorBytes_concat, BitVec.xor_eq_zero_iff]

/-- R102 (d): one flipped bit leaves the XOR of a valid sequence at that one bit. -/
theorem csumValid_flip {bytes : List Byte} (h : bytes.length = 9) (hvalid : csumValid bytes = true) {j k : Nat}
    (hj : j < 9) (hk : k < 8) : csumValid (bytes.set j (bytes.getD j 0#8 ^^^ BitVec.twoPow 8 k)) = false := by
  rw [← Bool.not_eq_true, csumValid_nine (by simpa using h), xorBytes_set (h ▸ hj), (csumValid_nine h).mp hvalid,
    BitVec.zero_xor]
  exact fun hzero => by simpa [hk] using congrArg (·.getLsbD k) hzero

/-- Settles O36: byte 8 is the XOR of the payload, and the XOR of nine valid bytes is zero. -/
theorem checksumRejectsSingleBitFlips : Obligations.ChecksumRejectsSingleBitFlips := by
  refine ⟨fun payload h => ⟨xorBytes payload, ?_, fun c hc => ?_⟩,
    fun _ h hvalid _ hj _ hk => csumValid_flip h hvalid hj hk⟩
  · simp [csumValid_payload h]
  · exact (of_decide_eq_true ((csumValid_payload h c []).symm.trans hc)).symm

end Sys2Proof.Machine
end

section
/-! The Manchester stage bit by bit, and the encoding it undoes (42_manchester R95, R96, R98). -/

namespace Sys2Proof.Machine

/-! ## One byte from sixteen raw bits (R95) -/

theorem shiftIn_concat (bits : List Bool) (b : Bool) :
    shiftIn (bits ++ [b]) = (shiftIn bits <<< 1) ||| (BitVec.ofBool b).zeroExtend 16 :=
  List.foldl_concat _ _ _ _

/-- The last bit shifted in is bit 0, the one before it bit 1, and so on. -/
theorem getLsbD_shiftIn (bits : List Bool) {p : Nat} (hp : p < 16) :
    (shiftIn bits).getLsbD p = bits.reverse.getD p false := by
  induction bits using List.reverseRecOn generalizing p with
  | nil => simp [shiftIn]
  | append_singleton bits b ih =>
    rw [shiftIn_concat, List.reverse_concat]
    cases p with
    | zero => simp
    | succ p => simp [hp, ih (by omega : p < 16), -BitVec.getLsbD_eq_getElem]

/-- The top two bits of the shift register decide the next output bit. -/
theorem top_bits_ne_zero (v : BitVec 16) :
    decide (v &&& 0xC000#16 ≠ 0#16) = (v.getLsbD 15 || v.getLsbD 14) := by
  have htop : (0xC000#16 : BitVec 16) = BitVec.twoPow 16 15 ||| BitVec.twoPow 16 14 := rfl
  rw [htop, BitVec.and_or_distrib_left, BitVec.and_twoPow, BitVec.and_twoPow]
  cases v.getLsbD 15 <;> cases v.getLsbD 14 <;> rfl

theorem getLsbD_shiftLeft_two (v : BitVec 16) {p : Nat} (hlow : 2 ≤ p) (hhigh : p < 16) :
    (v <<< 2).getLsbD p = v.getLsbD (p - 2) := by
  simp [hhigh, Nat.not_lt.mpr hlow, -BitVec.getLsbD_eq_getElem]

/-- A bit entering at bit 0 moves the others up. -/
theorem getLsbD_enter (b : Byte) (bit : Bool) {q : Nat} (hq : q < 8) :
    ((b <<< 1) ||| (BitVec.ofBool bit).zeroExtend 8).getLsbD q = if q = 0 then bit else b.getLsbD (q - 1) := by
  cases q with
  | zero => simp
  | succ q => simp [hq, -BitVec.getLsbD_eq_getElem]

/-- After `k` steps the bits held before have moved up by `k`, and below them stands one bit for each pair from the
top of the shift register, the first pair's highest. -/
theorem getLsbD_symbolLoop {k : Nat} (hk : k ≤ 8) (v : BitVec 16) (b : Byte) {q : Nat} (hq : q < 8) :
    (symbolLoop k v b).getLsbD q
      = if q < k then v.getLsbD (15 - 2 * (k - 1 - q)) || v.getLsbD (14 - 2 * (k - 1 - q)) else b.getLsbD (q - k) := by
  induction k generalizing v b with
  | zero => rfl
  | succ k ih =>
    rw [symbolLoop, ih (by omega), top_bits_ne_zero]
    rcases Nat.lt_trichotomy q k with hlt | rfl | hgt
    · rw [if_pos hlt, if_pos (by omega), getLsbD_shiftLeft_two v (by omega) (by omega),
        getLsbD_shiftLeft_two v (by omega) (by omega),
        show 15 - 2 * (k - 1 - q) - 2 = 15 - 2 * (k + 1 - 1 - q) by omega,
        show 14 - 2 * (k - 1 - q) - 2 = 14 - 2 * (k + 1 - 1 - q) by omega]
    · rw [if_neg q.lt_irrefl, if_pos q.lt_succ_self, getLsbD_enter b _ (by omega), if_pos q.sub_self,
        show q + 1 - 1 - q = 0 by omega]
    · rw [if_neg hgt.not_gt, if_neg (by omega), getLsbD_enter b _ (by omega), if_neg (by omega), Nat.sub_sub]

theorem getLsbD_clockMask {p : Nat} (hp : p < 16) : Config.clockMask.getLsbD p = decide (p % 2 = 1) := by
  have hall : ∀ p : Fin 16, Config.clockMask.getLsbD p.val = decide (p.val % 2 = 1) := by decide
  exact hall ⟨p, hp⟩

/-- R96: each output bit comes from its own pair of raw bits. -/
theorem getLsbD_manchesterByte {group : List Bool} (hgroup : group.length = 16) {k : Nat} (hk : k < 8) :
    (manchesterByte group).getLsbD (7 - k)
      = (!(group.getD (2 * k) false) || group.getD (2 * k + 1) false) := by
  have hraw {p : Nat} (hp : p < 16) : (shiftIn group).getLsbD (15 - p) = group.getD p false := by
    rw [getLsbD_shiftIn group (by omega)]
    simp [List.getD_eq_getElem?_getD, List.getElem?_reverse (show 15 - p < group.length by omega), hgroup,
      show 15 - (15 - p) = p by omega]
  have hfirst : (shiftIn group ^^^ Config.clockMask).getLsbD (15 - 2 * k) = !(group.getD (2 * k) false) := by
    rw [BitVec.getLsbD_xor, hraw (by omega), getLsbD_clockMask (by omega), decide_eq_true (by omega), Bool.xor_true]
  have hsecond : (shiftIn group ^^^ Config.clockMask).getLsbD (14 - 2 * k) = group.getD (2 * k + 1) false := by
    rw [BitVec.getLsbD_xor, show 14 - 2 * k = 15 - (2 * k + 1) by omega, hraw (by omega),
      getLsbD_clockMask (by omega), decide_eq_false (by omega), Bool.xor_false]
  rw [manchesterByte, getLsbD_symbolLoop le_rfl _ _ (by omega), if_pos (by omega),
    show 8 - 1 - (7 - k) = k by omega, hfirst, hsecond]

/-! ## The bytes of the loop (R96) -/

/-- The byte of the `m`-th group of sixteen raw bits. -/
def groupByte (rest : List Bool) (m : Nat) : Byte := manchesterByte ((rest.drop (16 * m)).take 16)

theorem groupByte_drop (rest : List Bool) (m : Nat) : groupByte (rest.drop 16) m = groupByte rest (m + 1) := by
  rw [groupByte, groupByte, List.drop_drop, Nat.mul_succ, Nat.add_comm]

/-- The loop adds the bytes of its groups, as many as the buffer has room for. -/
theorem mandecLoop_bytes (n : Nat) (rest : List Bool) (bytes : List Byte) :
    (mandecLoop n rest bytes).1 = bytes ++ (List.range (min n (10 - bytes.length))).map (groupByte rest) := by
  induction n generalizing rest bytes with
  | zero => simp [mandecLoop]
  | succ n ih =>
    rw [mandecLoop]
    split
    next hfull =>
      have hcap : 10 ≤ bytes.length := append_eq_none.mp hfull
      simp [Nat.sub_eq_zero_of_le hcap]
    next bytes' hroom =>
      obtain ⟨hlt, rfl⟩ := append_eq_some.mp hroom
      simp only [Config.byteCap] at hlt
      have hcount : min (n + 1) (10 - bytes.length) = min n (10 - (bytes.length + 1)) + 1 := by omega
      have hfirst : manchesterByte (rest.take 16) = groupByte rest 0 := rfl
      rw [ih, hcount, List.range_succ_eq_map, hfirst]
      simp [groupByte_drop]

theorem mandec_bytes (bits : List Bool) (start : Nat) :
    (mandec bits start).1
      = (List.range (min ((bits.length - start) / 16) 10)).map (groupByte (bits.drop start)) :=
  (mandecLoop_bytes _ _ []).trans (List.nil_append _)

/-- R96: bit `7 - k` of a complete group's byte. -/
theorem getLsbD_groupByte {rest : List Bool} {m : Nat} (hm : m < rest.length / 16) {k : Nat} (hk : k < 8) :
    (groupByte rest m).getLsbD (7 - k)
      = (!(rest.getD (16 * m + 2 * k) false) || rest.getD (16 * m + 2 * k + 1) false) := by
  have hgroup : ((rest.drop (16 * m)).take 16).length = 16 := by
    rw [List.length_take, List.length_drop]
    omega
  have hbit {p : Nat} (hp : p < 16) : ((rest.drop (16 * m)).take 16).getD p false = rest.getD (16 * m + p) false := by
    simp [List.getD_eq_getElem?_getD, List.getElem?_take_of_lt hp]
  rw [groupByte, getLsbD_manchesterByte hgroup hk, hbit (by omega), hbit (by omega), Nat.add_assoc]

/-- Settles O32: the length, the overflow and the bits of the bytes the loop adds. -/
theorem mandecClosedForm : Obligations.MandecClosedForm := by
  refine fun bits start => ⟨by simp [mandec_bytes], ?_, fun m hm k hk => ?_⟩
  · rw [mandec_overflow]
    exact decide_eq_decide.mpr (by omega)
  · have hgroup : m < (bits.drop start).length / 16 := by
      rw [List.length_drop]
      omega
    have hbyte : (mandec bits start).1.getD m 0#8 = groupByte (bits.drop start) m := by
      simp [mandec_bytes, List.getD_eq_getElem?_getD, List.getElem?_range hm]
    rw [hbyte, getLsbD_groupByte hgroup hk]
    simp [List.getD_eq_getElem?_getD, Nat.add_assoc]

/-! ## The inverse of the encoding (R98) -/

/-- The two raw bits of data bit `k` in the encoding of a byte. -/
theorem byteBits_symbols (b : Byte) {k : Nat} (hk : k < 8) :
    ((byteBits b).flatMap symbol).getD (2 * k) false = (!b.getLsbD (7 - k))
      ∧ ((byteBits b).flatMap symbol).getD (2 * k + 1) false = b.getLsbD (7 - k) := by
  match k, hk with
  | 0, _ | 1, _ | 2, _ | 3, _ | 4, _ | 5, _ | 6, _ | 7, _ => exact ⟨rfl, rfl⟩

theorem byteBits_symbols_length (b : Byte) : ((byteBits b).flatMap symbol).length = 16 := rfl

/-- One byte of R98: a symbol `10` or `01` decodes to the data bit it stands for. -/
theorem manchesterByte_symbols (b : Byte) : manchesterByte ((byteBits b).flatMap symbol) = b := by
  apply BitVec.eq_of_getLsbD_eq
  intro p hp
  obtain ⟨hfirst, hsecond⟩ := byteBits_symbols b (k := 7 - p) (by omega)
  have hbit := getLsbD_manchesterByte (byteBits_symbols_length b) (k := 7 - p) (by omega)
  rw [hfirst, hsecond, show 7 - (7 - p) = p by omega] at hbit
  simpa using hbit

theorem menc_cons (b : Byte) (bytes : List Byte) : menc (b :: bytes) = (byteBits b).flatMap symbol ++ menc bytes :=
  List.flatMap_cons

theorem menc_length (bytes : List Byte) : (menc bytes).length = 16 * bytes.length := by
  induction bytes with
  | nil => rfl
  | cons b rest ih =>
    rw [menc_cons, List.length_append, byteBits_symbols_length, ih, List.length_cons]
    omega

/-- The loop over the encoding of bytes that fit gives the bytes back. -/
theorem mandecLoop_menc (bytes held : List Byte) (hfits : held.length + bytes.length ≤ 10) :
    mandecLoop bytes.length (menc bytes) held = (held ++ bytes, false) := by
  induction bytes generalizing held with
  | nil => simp [mandecLoop]
  | cons b rest ih =>
    have htake : (menc (b :: rest)).take 16 = (byteBits b).flatMap symbol := by
      rw [menc_cons, List.take_left' (byteBits_symbols_length b)]
    have hdrop : (menc (b :: rest)).drop 16 = menc rest := by
      rw [menc_cons, List.drop_left' (byteBits_symbols_length b)]
    have hroom : append Config.byteCap held b = some (held ++ [b]) :=
      append_eq_some.mpr ⟨by simp at hfits ⊢; omega, rfl⟩
    rw [List.length_cons, mandecLoop, htake, hdrop, manchesterByte_symbols, hroom]
    simpa using ih (held ++ [b]) (by simp at hfits ⊢; omega)

theorem mandec_menc {bytes : List Byte} (hfits : bytes.length ≤ 10) : mandec (menc bytes) 0 = (bytes, false) := by
  have hgroups : ((menc bytes).length - 0) / 16 = bytes.length := by rw [menc_length]; omega
  rw [mandec, hgroups]
  simpa using mandecLoop_menc bytes [] (by simpa using hfits)

/-- Settles O33, byte by byte. -/
theorem mandecInvertsEncoding : Obligations.MandecInvertsEncoding := fun _ => mandec_menc

end Sys2Proof.Machine
end

section
/-! The round trip of a frame: DECODE of the run lengths of its raw bits (44_frame_decode R111). -/

namespace Sys2Proof.Machine

/-! ## The raw bits of a frame as symbols -/

/-- The raw bits of a sequence of data bits. -/
def symbols (data : List Bool) : List Bool := data.flatMap symbol

theorem symbols_cons (d : Bool) (data : List Bool) : symbols (d :: data) = (!d) :: d :: symbols data := rfl

theorem symbols_length (data : List Bool) : (symbols data).length = 2 * data.length := by
  induction data with
  | nil => rfl
  | cons d rest ih => simp only [symbols_cons, List.length_cons, ih]; omega

theorem menc_eq_symbols (bytes : List Byte) : menc bytes = symbols (bytes.flatMap byteBits) :=
  List.flatMap_assoc.symm

/-- Taken as symbols, the raw bits of the preamble are those of the data bits 00000001. -/
theorem frameBits_eq_symbols (payload : List Byte) :
    frameBits payload = symbols ([false, false, false, false, false, false, false, true]
      ++ (payload ++ [xorBytes payload]).flatMap byteBits) := by
  rw [frameBits, menc_eq_symbols, symbols, symbols, List.flatMap_append]
  rfl

theorem frameBits_length {payload : List Byte} (h : payload.length = 8) : (frameBits payload).length = 160 := by
  rw [frameBits, List.length_append, menc_length, List.length_append, h]
  rfl

/-! ## Run lengths of symbols -/

theorem runClasses_pair (a : Bool) (rest : List Bool) : runClasses (a :: a :: rest) = .long :: runClasses rest := by
  rw [runClasses, if_pos rfl]

theorem runClasses_single {a b : Bool} (h : a ≠ b) (rest : List Bool) :
    runClasses (a :: b :: rest) = .short :: runClasses (b :: rest) := by
  rw [runClasses, if_neg h]

/-- From the second raw bit of a symbol on: it makes a pair with the first bit of the next symbol, or stands alone, and
then so does that first bit. -/
theorem runClasses_symbols_cons (b d : Bool) (data : List Bool) :
    runClasses (b :: symbols (d :: data))
      = if b = !d then .long :: runClasses (d :: symbols data)
        else .short :: .short :: runClasses (d :: symbols data) := by
  have hsymbol : (!d) ≠ d := by simp
  rw [symbols_cons]
  split
  next heq => rw [heq, runClasses_pair]
  next hne => rw [runClasses_single hne, runClasses_single hsymbol]

theorem runClasses_length_le (bits : List Bool) : (runClasses bits).length ≤ bits.length := by
  induction bits using runClasses.induct with
  | case1 => exact le_rfl
  | case2 _ => exact le_rfl
  | case3 a rest ih =>
    rw [runClasses_pair, List.length_cons, List.length_cons, List.length_cons]
    omega
  | case4 a b rest hab ih =>
    rw [runClasses_single hab, List.length_cons, List.length_cons]
    exact Nat.succ_le_succ ih

/-- The runs of the preamble: thirteen single bits and a pair; its last bit belongs to the run that follows. -/
theorem runClasses_preamble (data : List Bool) :
    runClasses (symbols ([false, false, false, false, false, false, false, true] ++ data))
      = List.replicate 13 .short ++ .long :: runClasses (true :: symbols data) := rfl

/-- R111: at most 159 pulses, one less than there are raw bits, because the preamble holds a pair. -/
theorem runClasses_frameBits_length {payload : List Byte} (h : payload.length = 8) :
    (runClasses (frameBits payload)).length ≤ 159 := by
  have hlength := frameBits_length h
  rw [frameBits_eq_symbols] at hlength ⊢
  generalize (payload ++ [xorBytes payload]).flatMap byteBits = data at hlength ⊢
  have hrest := runClasses_length_le (true :: symbols data)
  simp only [symbols_length, List.length_append, List.length_cons, List.length_nil] at hlength hrest
  rw [runClasses_preamble, List.length_append, List.length_replicate, List.length_cons]
  omega

/-! ## The raw bits of a capture of run lengths -/

/-- In symbols no three bits in a row are equal, so the capture of their run lengths has the level of each run. -/
theorem rawBits_of_runClasses {data : List Bool} {pulses : List Duration} {b : Bool}
    (h : pulses.map classify = runClasses (b :: symbols data)) : rawBits pulses b = b :: symbols data := by
  induction data generalizing pulses b with
  | nil =>
    obtain ⟨p, rest, rfl, hp, hrest⟩ := List.map_eq_cons_iff.mp h
    rw [List.map_eq_nil_iff.mp hrest, rawBits_cons_short hp]
    rfl
  | cons d data ih =>
    rw [runClasses_symbols_cons] at h
    split at h
    next heq =>
      subst heq
      obtain ⟨p, rest, rfl, hp, hrest⟩ := List.map_eq_cons_iff.mp h
      rw [rawBits_cons_long hp, Bool.not_not, ih hrest, symbols_cons]
    next hne =>
      obtain rfl : b = d := by simpa using Bool.eq_not_of_ne hne
      obtain ⟨p, rest, rfl, hp, hrest⟩ := List.map_eq_cons_iff.mp h
      obtain ⟨q, rest', rfl, hq, hrest'⟩ := List.map_eq_cons_iff.mp hrest
      rw [rawBits_cons_short hp, rawBits_cons_short hq, Bool.not_not, ih hrest', symbols_cons]

/-- A frame begins with a run of one bit, the first bit of the preamble. -/
theorem rawBits_frame {payload : List Byte} {pulses : List Duration}
    (h : pulses.map classify = runClasses (frameBits payload)) : rawBits pulses true = frameBits payload := by
  rw [frameBits_eq_symbols, List.cons_append, symbols_cons] at h ⊢
  rw [Bool.not_false, runClasses_single (by decide)] at h
  obtain ⟨p, rest, rfl, hp, hrest⟩ := List.map_eq_cons_iff.mp h
  rw [rawBits_cons_short hp, Bool.not_true, rawBits_of_runClasses hrest, Bool.not_false]

/-! ## The stages of DECODE on a frame (R105) -/

/-- The preamble stands at the head of a frame. -/
theorem findpre_frameBits (payload : List Byte) : findpre (frameBits payload) = some 16 :=
  findpre_of_first (c := 0) ⟨List.take_left' rfl, fun _ hc => absurd hc (Nat.not_lt_zero _)⟩

/-- Behind the preamble stand the encoded payload and its checksum. -/
theorem mandec_frameBits {payload : List Byte} (h : payload.length = 8) :
    mandec (frameBits payload) 16 = (payload ++ [xorBytes payload], false) := by
  have hafter : mandec (frameBits payload) 16 = mandec (menc (payload ++ [xorBytes payload])) 0 := by
    have hlength : (frameBits payload).length - 16 = (menc (payload ++ [xorBytes payload])).length - 0 := by
      rw [frameBits, List.length_append]
      exact Nat.add_sub_cancel_left _ _
    have hdrop : (frameBits payload).drop 16 = menc (payload ++ [xorBytes payload]) := List.drop_left' rfl
    rw [mandec, mandec, hlength, hdrop, List.drop_zero]
  rw [hafter, mandec_menc (by simp [h])]

theorem csumValid_frame {payload : List Byte} (h : payload.length = 8) :
    csumValid (payload ++ [xorBytes payload]) = true :=
  (csumValid_payload h _ []).trans (decide_eq_true rfl)

/-- FRAME of nine bytes is those bytes. -/
theorem frameOf_toList {bytes : List Byte} (h : bytes.length = 9) : (frameOf bytes).toList = bytes := by
  apply List.ext_getElem
  · simp [h]
  · intro j hj hj'
    simp [frameOf, hj']

/-- DECODE takes its last exit on a frame. -/
theorem decodeExit_frame {s : State} {payload : List Byte} (h : payload.length = 8)
    (hbits : rawBits s.capture s.startLevel = frameBits payload) :
    DecodeExit s ((((((((s.setBitBuf (frameBits payload)).setSearch true 16#8).countPreamble).setByteBuf
      (payload ++ [xorBytes payload])).setCsumOk true).countCsumOk).setFrame
        (frameOf (payload ++ [xorBytes payload])) true).setResult .ok) := by
  have hlength := frameBits_length h
  have hbitdec : bitdec s.capture s.startLevel = (frameBits payload, false) := by
    rw [bitdec_eq_rawBits, hbits, List.take_of_length_le (by omega), decide_eq_false (by omega)]
  have hnine : (payload ++ [xorBytes payload]).take 9 = payload ++ [xorBytes payload] :=
    List.take_of_length_le (by simp [h])
  have hexit := DecodeExit.ok hbitdec (findpre_frameBits payload) (mandec_frameBits h)
    (hnine.symm ▸ csumValid_frame h)
  rwa [hnine] at hexit

/-- Settles O42: the capture's raw bits are the frame's, and each stage of DECODE undoes one step of its making. -/
theorem frameRoundTrip : Obligations.FrameRoundTrip := by
  refine fun payload h => ⟨runClasses_frameBits_length h, fun s hlevel hclasses => ?_⟩
  have hbits : rawBits s.noteTimings.clearDecode.capture s.noteTimings.clearDecode.startLevel = frameBits payload := by
    rw [cleared_capture, clearDecode_startLevel, noteTimings_startLevel, hlevel]
    exact rawBits_frame hclasses
  exact ⟨_, exec_decode_iff.mpr (decodeExit_frame h hbits), rfl, rfl, rfl, rfl, rfl, rfl, rfl,
    frameOf_toList (by simp [h])⟩

end Sys2Proof.Machine
end

section
/-! ONFRAME and the DECAY after it (45_sensor_table R133). -/

namespace Sys2Proof.Machine

/-- DECAY treats every slot by itself (R120). -/
theorem slots_of_decay {s t : State} (h : exec .decay s = .next t) (i : Fin 12) :
    t.slots[i] = decaySlot i s.slots[i] := by
  cases h
  simp

/-- A slot that a sighting has just refreshed keeps its id over the decay, at the score of R116 less ten. -/
theorem decaySlot_sighted (i : Fin 12) {r : Slot} (hscore : 1 ≤ r.score.toNat) (p t now : Word) :
    (decaySlot i (sighted r p t now)).id = r.id
      ∧ (decaySlot i (sighted r p t now)).score.toNat = min (r.score.toNat + 10) 250 - 10 := by
  have hup : (sighted r p t now).score.toNat = min (r.score.toNat + 10) 250 := scoreUp_toNat r.score
  rw [decaySlot_eq, if_neg (by omega), ← hup]
  exact ⟨rfl, scoreDown_toNat _⟩

/-- DECAY writes no id but 0. -/
theorem decaySlot_id (i : Fin 12) (r : Slot) : (decaySlot i r).id = r.id ∨ (decaySlot i r).id = 0#32 := by
  rw [decaySlot_eq]
  split
  · exact .inr rfl
  · exact .inl rfl

/-- The record of a new id does not live through a decay (R133). -/
theorem decaySlot_placed {i : Fin 12} (hi : 4 ≤ i.val) (id p t now : Word) :
    decaySlot i ⟨id, p, t, BitVec.ofNat 8 Config.scoreAdd, now⟩ = Slot.empty := by
  rw [decaySlot_eq, if_pos ⟨hi, by simp⟩]

theorem sightSlot_same (i : Fin 12) (kind : TableKind) (s : State) :
    (sightSlot i kind s).slots[i] = sighted s.slots[i] s.argPressure s.argTemp s.argNow :=
  Vector.getElem_set_self i.isLt

theorem placeSlot_same (v : Fin 12) (s : State) :
    (placeSlot v s).slots[v] = ⟨s.argId, s.argPressure, s.argTemp, BitVec.ofNat 8 Config.scoreAdd, s.argNow⟩ :=
  Vector.getElem_set_self v.isLt

theorem placeSlot_other {v j : Fin 12} (h : j ≠ v) (s : State) : (placeSlot v s).slots[j] = s.slots[j] :=
  slots_set_other h _

/-- Settles O49: the decay takes what the sighting has just added, and a new id has nothing more. -/
theorem frameBeforeDecay : Obligations.FrameBeforeDecay := by
  intro s t u honframe hdecay hid
  have hslots := slots_of_decay hdecay
  constructor
  · intro i _ hi hleast hscore
    cases (exec_onframe_sighted hid hi hleast).symm.trans honframe
    obtain ⟨hkept, hscore'⟩ := decaySlot_sighted i hscore s.argPressure s.argTemp s.argNow
    rw [hslots, sightSlot_same]
    exact ⟨hkept.trans hi, hscore'⟩
  · intro hnew i
    cases (exec_onframe_placed hid hnew).symm.trans honframe
    rw [hslots]
    by_cases hv : i = victim s.slots
    · rw [hv, placeSlot_same, decaySlot_placed (victim_least s.slots).1]
      exact hid.symm
    · rw [placeSlot_other hv]
      rcases decaySlot_id i s.slots[i] with hkept | hcleared
      · rw [hkept]; exact hnew i
      · rw [hcleared]; exact hid.symm

end Sys2Proof.Machine
end

section
/-! The decode side and the table side (00_scope R3). -/

namespace Sys2Proof.Machine

/-- DECODE depends on the capture, and leaves the table side where it stood. -/
theorem exec_decode_withTableSide {s t : State} (hexec : exec .decode s = .next t) (u : State) :
    exec .decode (withTableSide s u) = .next (withTableSide t u) := by
  calc exec .decode (withTableSide s u)
      = .next (afterDecodeOf (withTableSide s u) t) := exec_decode_same_capture (s := s) rfl rfl hexec
    _ = .next (withTableSide (afterDecodeOf s t) u) := rfl
    _ = .next (withTableSide t u) := by rw [← eq_afterDecodeOf_self hexec]

/-- A command of the decode side ends in the same way whatever stands on the table side. -/
theorem CommandEffect.withTableSide_withTableSide {s t : State} {i : Instr} (h : CommandEffect s i t)
    (hi : onDecodeSide i = true) (u : State) : CommandEffect (withTableSide s u) i (withTableSide t u) := by
  cases h with
  | classify d => exact .classify d
  | bitdecOverflow hbits => exact .bitdecOverflow (s := withTableSide s u) hbits
  | bitdecOk hbits => exact .bitdecOk (s := withTableSide s u) hbits
  | findpreOk hpre => exact .findpreOk (s := withTableSide s u) hpre
  | findpreNone hpre => exact .findpreNone (s := withTableSide s u) hpre
  | mandecOverflow hbytes => exact .mandecOverflow (s := withTableSide s u) hbytes
  | mandecOk hbytes => exact .mandecOk (s := withTableSide s u) hbytes
  | csumOk hcsum => exact .csumOk (s := withTableSide s u) hcsum
  | csumFail hcsum => exact .csumFail (s := withTableSide s u) hcsum
  | decode hexit => exact commandEffect_of_exec (exec_decode_withTableSide (exec_decode_iff.mpr hexit) u)
  | _ => cases hi

/-- A command of the table side ends in the same way whatever stands on the decode side. -/
theorem CommandEffect.withDecodeSide_withDecodeSide {s t : State} {i : Instr} (h : CommandEffect s i t)
    (hi : onDecodeSide i = false) (u : State) : CommandEffect (withDecodeSide s u) i (withDecodeSide t u) := by
  cases h with
  | onframeZero hid => exact .onframeZero (s := withDecodeSide s u) hid
  | onframeConfigured hid hmatch => exact .onframeConfigured (s := withDecodeSide s u) hid hmatch
  | onframeExtra hid hnone hmatch => exact .onframeExtra (s := withDecodeSide s u) hid hnone hmatch
  | onframePlaced hid hconf hextra => exact .onframePlaced (s := withDecodeSide s u) hid hconf hextra
  | decay => exact .decay
  | view => exact .view
  | applycfg imm => exact .applycfg imm
  | _ => cases hi

/-- Settles O51, by the ways a command can end: none is decided by the other side or reaches it. -/
theorem sidesDoNotReadEachOther : Obligations.SidesDoNotReadEachOther := fun _ _ _ u hexec =>
  ⟨fun hi => ((commandEffect_of_exec hexec).withTableSide_withTableSide hi u).exec_eq,
    fun hi => ((commandEffect_of_exec hexec).withDecodeSide_withDecodeSide hi u).exec_eq⟩

end Sys2Proof.Machine
end

section
/-! What each command does as the first after reset (70_reset_and_hazards R151). -/

namespace Sys2Proof.Machine

/-- A command that leaves every slot of the empty table empty leaves the table as it is. -/
theorem ofFn_reset_slots {f : Fin 12 → Slot → Slot} (hf : ∀ i, f i Slot.empty = Slot.empty) :
    (Vector.ofFn fun i => f i State.reset.slots[i]) = State.reset.slots := by
  apply Vector.ext
  intro i hi
  simp [State.reset, hf]

/-- CFG_ID is 0 after reset, so a configured slot takes the empty id, valid or not. -/
theorem configSlot_reset (valid : Bool) (i : Fin 12) :
    configSlot valid State.reset.cfgId i Slot.empty = Slot.empty := by
  by_cases hi : i.val < 4
  · rw [configSlot_configured hi]
    simp [State.reset, Slot.empty]
  · exact configSlot_extra (Nat.not_lt.mp hi)

/-- Settles O21: each stage ends at once on the empty capture and buffers, and the table has no slot to change. -/
theorem firstCommandAfterReset : Obligations.FirstCommandAfterReset := by
  refine ⟨fun _ => rfl, rfl, rfl, rfl, rfl, rfl, rfl, ?_, rfl, fun imm => ?_⟩
  · exact congrArg (fun slots => Host.Outcome.next ((State.reset.setSlots slots).setResult .ok))
      (ofFn_reset_slots (f := decaySlot) (by decide))
  · exact congrArg (fun slots => Host.Outcome.next ((State.reset.setSlots slots).setResult .ok))
      (ofFn_reset_slots (configSlot_reset (validBit imm)))

end Sys2Proof.Machine
end
